-- ==== Sys2Proof/Word.lean ====
section
/-! DEFINITION. The word types of the block (00_scope.md R9, R11, R12; 10_state.md R32): every value is unsigned. -/

namespace Sys2Proof

/-- A ROM word or an event word: 16 bits (30_encoding.md R90). -/
abbrev Word := BitVec 16

/-- A receive or transmit slot's value: `SLOT_W` = 8 bits. -/
abbrev Byte := BitVec 8

/-- A sequencer address: `UPC_W` = 8 bits (10_state.md R45). -/
abbrev Addr := BitVec 8

/-- A phase number: 4 bits (10_state.md R46). -/
abbrev Phase := BitVec 4

/-- A tick count: `TICK_W` = 32 bits, arithmetic modulo 2^32 (00_scope.md R12). -/
abbrev Tick := BitVec 32

end Sys2Proof
end

