-- ==== Sys2Proof/Syntax.lean ====
section
/-! DEFINITION. The commands and events of the block, one constructor per row of opcode_table.json, and the moves of a
run (30_encoding.md R90 to R104, R115). -/

namespace Sys2Proof

/-- An endpoint: `A` is the USB side, `B` the RS485 side (00_scope.md R13, R17). -/
inductive Ep where
  | A
  | B
  deriving DecidableEq, Repr

/-- A direction of the RS485 transceiver (10_state.md R33). -/
inductive Dir where
  | receive
  | transmit
  deriving DecidableEq, Repr

/-- The two word classes: a command sits in the ROM, an event is delivered on the ports (30_encoding.md R90). -/
inductive WordClass where
  | command
  | event
  deriving DecidableEq, Repr

/-- The eleven rows of the opcode table. -/
inductive Instr where
  /-- `INIT` (42_bridge_sequencer.md R175, R176). -/
  | init
  /-- `ARM e` (41_relay_channel.md R137, R138). -/
  | arm (e : Ep)
  /-- `SETDIR d` (40_direction_controller.md R124, R125). -/
  | setdir (d : Dir)
  /-- `RELAY e, sw`: `e` is the source, `sw` is needsDirectionSwitch (41_relay_channel.md R145 to R157). -/
  | relay (e : Ep) (sw : Bool)
  /-- `HBEAT` (42_bridge_sequencer.md R180). -/
  | hbeat
  /-- `JMP a` (42_bridge_sequencer.md R182). -/
  | jmp (a : Addr)
  /-- `RXC e, b` (41_relay_channel.md R140, R141). -/
  | rxc (e : Ep) (b : Byte)
  /-- `TICK` (42_bridge_sequencer.md R184). -/
  | tick
  /-- `TXDONE r` (41_relay_channel.md R152). -/
  | txdone (r : Bool)
  /-- `INITDONE r` (42_bridge_sequencer.md R177). -/
  | initdone (r : Bool)
  /-- `RESET` (42_bridge_sequencer.md R185). -/
  | reset
  deriving DecidableEq, Repr

/-- One move of a run's schedule (30_encoding.md R115): `S`, one SEQ step, or an event word offered on the ports. -/
inductive Move where
  | seq
  | input (w : Word)
  deriving DecidableEq, Repr

end Sys2Proof
end

