-- ==== Sys2Proof/WellFormed.lean ====
section
/-! DEFINITION. Which instruction may stand where: commands in the ROM, events on the input ports (30_encoding.md R90,
R108). The operand types admit exactly the values the encoding has, so the class is the only check left. -/

namespace Sys2Proof

/-- The class of each row (30_encoding.md R93). -/
def Instr.wordClass : Instr → WordClass
  | .init => .command
  | .arm _ => .command
  | .setdir _ => .command
  | .relay _ _ => .command
  | .hbeat => .command
  | .jmp _ => .command
  | .rxc _ _ => .event
  | .tick => .event
  | .txdone _ => .event
  | .initdone _ => .event
  | .reset => .event

/-- `i` may stand in a word of class `c`: a command is never treated as an event, nor an event as a command. -/
def Instr.wellFormedIn (c : WordClass) (i : Instr) : Bool := i.wordClass == c

end Sys2Proof
end

