-- ==== Sys2Proof/Decode.lean ====
section
/-! DEFINITION. The decoder and the encoder of 16-bit words (30_encoding.md R90 to R117). Both are written from the
formats C and E: `op` in bits 15:12, `e` in bit 11, `f` or `r` in bit 10, `z` in bits 9:8, `imm8` or `b` in bits 7:0. -/

namespace Sys2Proof

/-- Why a word is ILLEGAL (30_encoding.md R106, R107). -/
inductive IllegalWord where
  /-- The `op` field is 0x6, 0x7, 0xD, 0xE or 0xF. -/
  | reservedOp
  /-- The `op` field is defined, and a bit the row requires to be 0 is 1. -/
  | mustBeZero
  deriving DecidableEq, Repr

/-- What decoding a word gives: one row, or ILLEGAL (30_encoding.md R117). -/
inductive Decoded where
  | instr (i : Instr)
  | illegal (why : IllegalWord)
  deriving DecidableEq, Repr

/-- `op = w[15:12]`. -/
def opField (w : Word) : BitVec 4 := w.extractLsb' 12 4

/-- `w[11]` read as an endpoint: 0 is A, 1 is B (30_encoding.md R105). -/
def epField (w : Word) : Ep := if w.getLsbD 11 then .B else .A

/-- `w[10]` read as `sw` or `r`. -/
def flagField (w : Word) : Bool := w.getLsbD 10

/-- `w[10]` read as a direction: 0 is RECEIVE, 1 is TRANSMIT (30_encoding.md R105, R111). -/
def dirField (w : Word) : Dir := if w.getLsbD 10 then .transmit else .receive

/-- `imm8 = w[7:0]`. -/
def imm8Field (w : Word) : BitVec 8 := w.extractLsb' 0 8

/-- `i` when every bit of `w` that `i`'s row requires to be 0 (the bits of `z`) is 0. -/
def ifZero (w z : Word) (i : Instr) : Decoded := if w &&& z = 0#16 then .instr i else .illegal .mustBeZero

/-- The decoder: total, one row or ILLEGAL for every 16-bit word (30_encoding.md R93 to R107, R117). -/
def decode (w : Word) : Decoded :=
  match opField w with
  | 0x0#4 => ifZero w 0x0FFF#16 .init
  | 0x1#4 => ifZero w 0x07FF#16 (.arm (epField w))
  | 0x2#4 => ifZero w 0x0BFF#16 (.setdir (dirField w))
  | 0x3#4 => ifZero w 0x03FF#16 (.relay (epField w) (flagField w))
  | 0x4#4 => ifZero w 0x0FFF#16 .hbeat
  | 0x5#4 => ifZero w 0x0F00#16 (.jmp (imm8Field w))
  | 0x8#4 => ifZero w 0x0700#16 (.rxc (epField w) (imm8Field w))
  | 0x9#4 => ifZero w 0x0FFF#16 .tick
  | 0xA#4 => ifZero w 0x0BFF#16 (.txdone (flagField w))
  | 0xB#4 => ifZero w 0x0BFF#16 (.initdone (flagField w))
  | 0xC#4 => ifZero w 0x0FFF#16 .reset
  | _ => .illegal .reservedOp

/-- The bit of an endpoint: A = 0, B = 1 (00_scope.md R13). -/
def Ep.bit : Ep → BitVec 1
  | .A => 0#1
  | .B => 1#1

/-- The bit of a direction: RECEIVE = 0, TRANSMIT = 1 (30_encoding.md R111). -/
def Dir.bit : Dir → BitVec 1
  | .receive => 0#1
  | .transmit => 1#1

/-- A word of formats C and E from its fields, `z` being 0b00 (30_encoding.md R91, R92, R114). -/
def packWord (op : BitVec 4) (e f : BitVec 1) (imm : BitVec 8) : Word :=
  op.setWidth 16 <<< 12 ||| e.setWidth 16 <<< 11 ||| f.setWidth 16 <<< 10 ||| imm.setWidth 16

/-- The encoder (30_encoding.md R94 to R104). -/
def encode : Instr → Word
  | .init => packWord 0x0 0 0 0
  | .arm e => packWord 0x1 e.bit 0 0
  | .setdir d => packWord 0x2 0 d.bit 0
  | .relay e sw => packWord 0x3 e.bit (BitVec.ofBool sw) 0
  | .hbeat => packWord 0x4 0 0 0
  | .jmp a => packWord 0x5 0 0 a
  | .rxc e b => packWord 0x8 e.bit 0 b
  | .tick => packWord 0x9 0 0 0
  | .txdone r => packWord 0xA 0 (BitVec.ofBool r) 0
  | .initdone r => packWord 0xB 0 (BitVec.ofBool r) 0
  | .reset => packWord 0xC 0 0 0

/-- The word `nbits` bits long with value `w`, as the opcode table numbers its bits. Every row is one 16-bit word, read
whole (20_memory.md R73), so no byte order enters. -/
def tableWord (nbits w : Nat) : Word := BitVec.ofNat 16 (w % 2 ^ nbits)

/-- The instruction the decoder reads from a table word, none where it refuses. -/
def decodeTableWord (nbits w : Nat) : Option Instr :=
  match decode (tableWord nbits w) with
  | .instr i => some i
  | .illegal _ => none

/-- The row's mnemonic in the opcode table (30_encoding.md R93). -/
def Instr.mnemonic : Instr → String
  | .init => "INIT"
  | .arm _ => "ARM"
  | .setdir _ => "SETDIR"
  | .relay _ _ => "RELAY"
  | .hbeat => "HBEAT"
  | .jmp _ => "JMP"
  | .rxc _ _ => "RXC"
  | .tick => "TICK"
  | .txdone _ => "TXDONE"
  | .initdone _ => "INITDONE"
  | .reset => "RESET"

/-- `RELAY_AB` (30_encoding.md R116). -/
def relayAB : Instr := .relay .A true

/-- `RELAY_BA` (30_encoding.md R116). -/
def relayBA : Instr := .relay .B false

/-- `LOOP a` (30_encoding.md R116). -/
def loopTo (a : Addr) : Instr := .jmp a

/-- `HALT` at its own address (30_encoding.md R116). -/
def haltAt (own : Addr) : Instr := .jmp own

/-- `@X`: the event of a script line, as a move (30_encoding.md R115). -/
def Instr.offer (i : Instr) : Move := .input (encode i)

/-- `S xN`: `n` SEQ steps (30_encoding.md R115). -/
def seqMoves (n : Nat) : List Move := List.replicate n .seq

/-- `@TICK xN`: `n` ticks in a row (30_encoding.md R115). -/
def tickMoves (n : Nat) : List Move := List.replicate n (Instr.offer .tick)

/-- An input word carries a legal event (30_encoding.md R106, R108). -/
def isEventWord (w : Word) : Bool :=
  match decode w with
  | .instr i => i.wellFormedIn .event
  | .illegal _ => false

/-- A move that the spec's scripts can hold: `S`, or a legal event word. -/
def Move.legal : Move → Bool
  | .seq => true
  | .input w => isEventWord w

end Sys2Proof
end

