-- ==== Sys2Proof/Config.lean ====
section
/-! DEFINITION. The implementation parameters of 00_scope.md R9 with their defaults, and the two free constants of the
model. -/

namespace Sys2Proof.Config

/-- `N_EP`. -/
def endpoints : Nat := 2

/-- `ROM_DEPTH`, in 16-bit words. -/
def romDepth : Nat := 256

/-- `SETTLE_TICKS`: the default; the rules read `State.params` (log 3). -/
def settleTicks : Tick := 1

/-- `TX_TIMEOUT`: the default. -/
def txTimeout : Tick := 1000

/-- `HB_PERIOD`: the default. -/
def hbPeriod : Tick := 1000

/-- `P_TOGGLE_ON_TIMEOUT`: the default. -/
def toggleOnTimeout : Bool := false

/-- `BAUD`: the reference configuration of both UARTs; no rule reads it (70_reset_and_hazards.md R244). -/
def baud : Nat := 115200

/-- `FRAME`: data bits, parity bits and stop bits of 8N1; no rule reads it. -/
def frame : Nat × Nat × Nat := (8, 0, 1)

/-- FREE VALUE (log 4): `FATAL_BLINK_PERIOD` is OPEN (92_eei_decisions.md D17). `Machine.fatalBlinkPeriod` brings
this number into the one bound the spec sets. -/
opaque freeFatalPeriod : Nat

/-- FREE VALUE (log 6): the choice of the agent that moves next and of what ENV delivers, one word for each move past
the schedule's end (10_state.md R31, R57). `Machine.freeMove` reads it. -/
opaque freeWord : Nat → Word

end Sys2Proof.Config
end

