-- ==== Sys2Proof/Machine/State.lean ====
section
/-! DEFINITION. The state of the block as plain data (10_state.md), its faults and refusals (60_exceptions.md R201 to
R203), and the state after reset (10_state.md R62). -/

namespace Sys2Proof.Machine

/-- The endpoint's four pieces of state (41_relay_channel.md R135). -/
structure Endpoint where
  /-- `rx_slot[e]` (10_state.md R35). -/
  rxSlot : Byte
  /-- `tx_slot[e]` (10_state.md R36). -/
  txSlot : Byte
  /-- `flag[e]`, the completion flag (10_state.md R37). -/
  flag : Bool
  /-- `armed[e]` (10_state.md R38). -/
  armed : Bool
  deriving DecidableEq, Repr

/-- An event of the observation trace (10_state.md R58). -/
inductive Obs where
  | initReq
  | initRes (r : Bool)
  | fatal
  | arm (e : Ep)
  | rx (e : Ep) (b : Byte)
  | drop (e : Ep) (b : Byte)
  | de (v : Dir)
  | txReq (e : Ep) (b : Byte)
  | txRes (r : Bool)
  | led (v : Bool)
  | rst
  deriving DecidableEq, Repr

/-- An entry of the fault record (10_state.md R59, 60_exceptions.md R201). -/
structure FaultEntry where
  code : Nat
  upc : Addr
  word : Word
  deriving DecidableEq, Repr

/-- The implementation parameters of 00_scope.md R9 that a rule reads, fixed for a run (R10; log 3). -/
structure Params where
  settleTicks : Tick
  txTimeout : Tick
  hbPeriod : Tick
  /-- `FATAL_BLINK_PERIOD`: `none` while it is OPEN (log 4), `some p` where a vector fixes it (a `p` outside the bound of R9:
  log 23). -/
  fatalBlink : Option Tick
  toggleOnTimeout : Bool
  deriving DecidableEq, Repr

/-- The ROM as a list of cells: strictly rising addresses, no cell that holds what an unlisted address reads as. Word `a` of
the ROM lies in cells `2a` (bits 7:0) and `2a + 1` (bits 15:8) (log 1, 2). -/
abbrev Memory := List Host.Cell

/-- The machine's state. -/
structure State where
  /-- `de` (10_state.md R33). -/
  de : Dir
  /-- `dir_t0` (10_state.md R34). -/
  dirT0 : Tick
  /-- Endpoint A, the USB side. -/
  epA : Endpoint
  /-- Endpoint B, the RS485 side. -/
  epB : Endpoint
  /-- `now` (10_state.md R42). -/
  now : Tick
  /-- `hb_last` (10_state.md R43). -/
  hbLast : Tick
  /-- `led` (10_state.md R44). -/
  led : Bool
  /-- `upc` (10_state.md R45). -/
  upc : Addr
  /-- `ph` (10_state.md R46). -/
  ph : Phase
  /-- `tx_pend` (10_state.md R47). -/
  txPend : Bool
  /-- `txres` (10_state.md R48). -/
  txres : Bool
  /-- `init_pend` (10_state.md R49). -/
  initPend : Bool
  /-- `init_ok` (10_state.md R50). -/
  initOk : Bool
  /-- `fatal` (10_state.md R51). -/
  fatal : Bool
  /-- `tx_t0`, model-only (41_relay_channel.md R150; log 10). -/
  txT0 : Tick
  /-- The observation trace, oldest first (10_state.md R58; log 12). -/
  trace : List Obs
  /-- The fault record (10_state.md R59; log 9). -/
  faults : List FaultEntry
  /-- The refusal mark (10_state.md R59; log 9). -/
  refusedMark : Bool
  /-- The command ROM, read-only (20_memory.md R71; log 1). -/
  rom : Memory
  /-- The implementation parameters, read-only (log 3). -/
  params : Params
  /-- The moves still to come, next first (30_encoding.md R115; log 5). -/
  schedule : List Move
  /-- Which free move comes next once the schedule is empty (log 6). -/
  moveNo : Nat
  deriving DecidableEq, Repr

/-- Why the machine stops with a fault. The three codes are the model's marks for a breach of the source's calling rules
(60_exceptions.md R201, R202). -/
inductive Fault where
  /-- Code 1. Raised by the direction write of `SETDIR TX` and R_DIRTX with `de = TRANSMIT` already (R122). Safe: the run
  ends where the source gives no outcome. -/
  | nestedDir (upc : Addr) (word : Word)
  /-- Code 2. Raised by R_TXREQ when the target is B and `de = RECEIVE` (R151). Safe, for the same reason. -/
  | busUndriven (upc : Addr) (word : Word)
  /-- Code 3. Raised by `ARM e` with `flag[e] = 1` (R137). Safe, for the same reason. -/
  | armPending (upc : Addr) (word : Word)
  /-- Raised by every step of a state that holds a fault or a refusal: no agent has a step (R59). Safe: nothing is claimed
  of such a run. -/
  | runEnded
  deriving DecidableEq, Repr

/-- Where a refused word came from. -/
inductive WordSource where
  /-- Fetched from ROM address `upc`. -/
  | rom (upc : Addr)
  /-- Offered by the input stream. -/
  | input
  deriving DecidableEq, Repr

/-- Why the model gives a step no meaning (60_exceptions.md R203). -/
inductive Refusal where
  /-- `ILLEGAL_WORD`: raised by the SEQ fetch and by an input stream (30_encoding.md R106 to R108). Safe: the run ends. -/
  | illegalWord (source : WordSource) (word : Word)
  /-- `BAD_PHASE`: raised by SEQ dispatch on a (command, `ph`) pair that 30_encoding.md R113 does not list. Its
  information is the model's choice (log 22). Safe: the run ends. -/
  | badPhase (upc : Addr) (ph : Phase)
  /-- Raised by an arm of `exec` whose instruction has no meaning yet. Safe: the run ends. -/
  | notModelled (mnemonic : String)
  deriving DecidableEq, Repr

/-- The outcome of one meaning or one step. -/
abbrev Result := Host.Outcome State Fault Refusal

/-- An endpoint after reset (10_state.md R62). -/
def Endpoint.reset : Endpoint := { rxSlot := 0, txSlot := 0, flag := false, armed := false }

/-- The parameters with the defaults of 00_scope.md R9. -/
def Params.default : Params :=
  { settleTicks := Config.settleTicks
    txTimeout := Config.txTimeout
    hbPeriod := Config.hbPeriod
    fatalBlink := none
    toggleOnTimeout := Config.toggleOnTimeout }

/-- The machine at power-up: every register at its value in 10_state.md R62, the trace and the fault record empty, the
refusal mark clear (70_reset_and_hazards.md R230, R250), the reference ROM, the default parameters, no move scheduled. -/
def State.reset : State :=
  { de := .receive
    dirT0 := 0
    epA := Endpoint.reset
    epB := Endpoint.reset
    now := 0
    hbLast := 0
    led := false
    upc := 0
    ph := 0
    txPend := false
    txres := false
    initPend := false
    initOk := false
    fatal := false
    txT0 := 0
    trace := []
    faults := []
    refusedMark := false
    rom := []
    params := Params.default
    schedule := []
    moveNo := 0 }

end Sys2Proof.Machine
end

