-- ==== Sys2Proof/Machine/Ops.lean ====
section
/-! DEFINITION. The named operations: the ROM, time, endpoint access, the sequencer's address and phase, the trace, faults
and refusals, the receive interrupt, entry to the fatal state, and the free moves. -/

namespace Sys2Proof.Machine

/-! ### The command ROM (20_memory.md R71, R72) -/

/-- The words the reference ROM lists, from address 0x00 (42_bridge_sequencer.md R190). -/
def referenceWords : List Word := [0x0000, 0x1000, 0x1800, 0x3400, 0x3800, 0x4000, 0x5003]

/-- The reference ROM: the filler 0xFFFF at every address not listed (30_encoding.md R109). -/
def referenceWord (a : Nat) : Word := referenceWords.getD a 0xFFFF

/-- What an unlisted cell reads as: its byte of the reference ROM (log 1, 2). -/
def unlistedByte (c : Nat) : Byte :=
  if c % 2 = 0 then (referenceWord (c / 2)).extractLsb' 0 8 else (referenceWord (c / 2)).extractLsb' 8 8

/-- The number of cells of the ROM: two for each of its words. -/
def romCells : Nat := 2 * Config.romDepth

/-- The byte of cell `c`. -/
def readCell : Memory → Nat → Byte
  | [], c => unlistedByte c
  | (d, v) :: m, c => if d = c then v else readCell m c

/-- Sets cell `c` to `v` and keeps the canonical form. -/
def writeCell : Memory → Nat → Byte → Memory
  | [], c, v => if v = unlistedByte c then [] else [(c, v)]
  | (d, u) :: m, c, v =>
    if c < d then (if v = unlistedByte c then (d, u) :: m else (c, v) :: (d, u) :: m)
    else if c = d then (if v = unlistedByte c then m else (c, v) :: m)
    else (d, u) :: writeCell m c v

/-- Every cell of `m` is at `lo` or above, inside the ROM, in strictly rising order, and differs from the unlisted byte. -/
def wfFrom (lo : Nat) : Memory → Bool
  | [] => true
  | (d, v) :: m => decide (lo ≤ d) && decide (d < romCells) && decide (v ≠ unlistedByte d) && wfFrom (d + 1) m

/-- The canonical form of the ROM. -/
def Memory.wf (m : Memory) : Bool := wfFrom 0 m

/-- `ROM[a]`, the 16-bit word at sequencer address `a`: `MemRead(a, 2)` (20_memory.md R72). -/
def romWord (m : Memory) (a : Addr) : Word :=
  readCell m (2 * a.toNat + 1) ++ readCell m (2 * a.toNat)

/-- A ROM built with word `w` at address `a`. No agent of the block performs it (20_memory.md R84). -/
def setRomWord (m : Memory) (a : Addr) (w : Word) : Memory :=
  writeCell (writeCell m (2 * a.toNat) (w.extractLsb' 0 8)) (2 * a.toNat + 1) (w.extractLsb' 8 8)

/-- The word SEQ fetches: `ROM[upc]`. -/
def State.fetched (s : State) : Word := romWord s.rom s.upc

/-! ### Time -/

/-- `elapsed(t) = (now - t) mod 2^32` (00_scope.md R12). -/
def State.elapsed (s : State) (t : Tick) : Tick := s.now - t

/-- `now <- (now + 1) mod 2^32` (42_bridge_sequencer.md R184). -/
def State.tickOnce (s : State) : State := { s with now := s.now + 1 }

/-- `FATAL_BLINK_PERIOD`: the value a vector fixes, else a free one with `0 < FATAL_BLINK_PERIOD < HB_PERIOD`
(60_exceptions.md R205; log 4). The spec does not say what a fixed value outside that bound (00_scope.md R9) does: that it is used
as it stands, with no check, is a DESIGN CHOICE (log 23). -/
def fatalBlinkPeriod (p : Params) : Tick :=
  match p.fatalBlink with
  | some t => t
  | none => BitVec.ofNat 32 (1 + Config.freeFatalPeriod % (p.hbPeriod.toNat - 1))

/-! ### Endpoints -/

/-- The endpoint register `name[e]`. -/
def State.ep (s : State) (e : Ep) : Endpoint :=
  match e with
  | .A => s.epA
  | .B => s.epB

/-- Writes endpoint `e`. -/
def State.setEp (s : State) (e : Ep) (v : Endpoint) : State :=
  match e with
  | .A => { s with epA := v }
  | .B => { s with epB := v }

/-! ### The sequencer -/

/-- `upc <- target; ph <- 0` (42_bridge_sequencer.md R182). -/
def State.jumpTo (s : State) (a : Addr) : State := { s with upc := a, ph := 0 }

/-- `next`: `upc <- (upc + 1) mod 256; ph <- 0` (00_scope.md R14). -/
def State.advance (s : State) : State := s.jumpTo (s.upc + 1)

/-- `ph <- p`. -/
def State.setPh (s : State) (p : Phase) : State := { s with ph := p }

/-! ### The trace, the indicator and the direction line -/

/-- `emit` (10_state.md R58). -/
def State.emit (s : State) (o : Obs) : State := { s with trace := s.trace ++ [o] }

/-- `led <- led ^ 1; emit LED(led ^ 1)`: the new value is shown (10_state.md R44). -/
def State.toggleLed (s : State) : State := { s with led := !s.led }.emit (.led (!s.led))

/-- `de <- d; dir_t0 <- now; emit DE(d)` (40_direction_controller.md R122). -/
def State.writeDir (s : State) (d : Dir) : State := { s with de := d, dirT0 := s.now }.emit (.de d)

/-! ### Faults and refusals (60_exceptions.md R201, R203) -/

/-- A fault or a refusal is recorded: no agent has a step (10_state.md R59). -/
def State.stopped (s : State) : Bool := !s.faults.isEmpty || s.refusedMark

/-- `k` in a state that holds no fault and no refusal. -/
def whenLive (s : State) (k : Result) : Result := if s.stopped then .fault .runEnded else k

/-- `raise NESTED_DIR`. -/
def raiseNestedDir (s : State) : Result := .fault (.nestedDir s.upc s.fetched)

/-- `raise BUS_UNDRIVEN`. -/
def raiseBusUndriven (s : State) : Result := .fault (.busUndriven s.upc s.fetched)

/-- `raise ARM_PENDING`. -/
def raiseArmPending (s : State) : Result := .fault (.armPending s.upc s.fetched)

/-- `refuse BAD_PHASE` (42_bridge_sequencer.md R171). The spec gives it no information; that it carries `upc` and `ph` is a
DESIGN CHOICE (log 22). -/
def refuseBadPhase (s : State) : Result := .refused (.badPhase s.upc s.ph)

/-- `refuse ILLEGAL_WORD` at the fetch (42_bridge_sequencer.md R170). -/
def refuseFetch (s : State) : Result := .refused (.illegalWord (.rom s.upc) s.fetched)

/-- `refuse ILLEGAL_WORD` for a word of the input stream (30_encoding.md R106, R108). The spec gives it no information there;
that it carries the word is a DESIGN CHOICE (log 18). -/
def refuseInput (w : Word) : Result := .refused (.illegalWord .input w)

/-- The record a fault appends; `runEnded` appends none, since no step was taken (60_exceptions.md R201, R202). -/
def faultEntry : Fault → Option FaultEntry
  | .nestedDir a w => some { code := 1, upc := a, word := w }
  | .busUndriven a w => some { code := 2, upc := a, word := w }
  | .armPending a w => some { code := 3, upc := a, word := w }
  | .runEnded => none

/-- The state a step of `s` leaves behind: the next state, or `s` with nothing written but the fault record or the refusal
mark (10_state.md R59, 60_exceptions.md R201, R203; log 9). -/
def afterOutcome (s : State) (o : Result) : State :=
  match o with
  | .next t => t
  | .fault f => { s with faults := s.faults ++ (faultEntry f).toList }
  | .refused _ => { s with refusedMark := true }

/-- Continues with `k` after an outcome that answers a next state. -/
def andThen (o : Result) (k : State → Result) : Result :=
  match o with
  | .next t => k t
  | .fault f => .fault f
  | .refused r => .refused r

/-- A hold: the agent has no enabled step, and nothing changes (42_bridge_sequencer.md R170; log 7). -/
def hold (s : State) : Result := .next s

/-- A move the spec does not enable: the environment has no such step, and nothing changes (70_reset_and_hazards.md R249;
log 8). -/
def notEnabled (s : State) : Result := .next s

/-- The one phase of a single-phase command (30_encoding.md R113). -/
def singlePhase (s : State) (k : Result) : Result := if s.ph = 0 then k else refuseBadPhase s

/-! ### The receive interrupt and the fatal state -/

/-- Taking the receive interrupt of endpoint `e`, the block's only kind of interrupt, with its fixed handler: one atomic step
that saves nothing and changes no SEQ state. Its return is implicit, SEQ going on at the same `upc` and `ph`
(60_exceptions.md R209, R210, R215, R216; 41_relay_channel.md R140). -/
def takeReceive (s : State) (e : Ep) (b : Byte) : State :=
  (s.setEp e { s.ep e with rxSlot := b, armed := false, flag := true }).emit (.rx e b)

/-- A byte on an endpoint whose interrupt is disabled is lost (41_relay_channel.md R141, 60_exceptions.md R208). -/
def dropByte (s : State) (e : Ep) (b : Byte) : State := s.emit (.drop e b)

/-- Entry to the fatal state: nothing else changes (60_exceptions.md R204). -/
def enterFatal (s : State) : State := { s with fatal := true }.emit .fatal

/-! ### The moves of a run -/

/-- The free move number `n`: any legal event, or a SEQ step (10_state.md R31, R57; log 6). -/
def freeMove (n : Nat) : Move :=
  if isEventWord (Config.freeWord n) then .input (Config.freeWord n) else .seq

/-- The move that comes next. -/
def State.nextMove (s : State) : Move :=
  match s.schedule with
  | m :: _ => m
  | [] => freeMove s.moveNo

/-- The state with its next move taken off the schedule, or off the free moves (log 5, 6). -/
def State.popMove (s : State) : State :=
  match s.schedule with
  | _ :: ms => { s with schedule := ms }
  | [] => { s with moveNo := s.moveNo + 1 }

end Sys2Proof.Machine
end

