-- ==== Sys2Proof/Machine/Operands.lean ====
section
/-! DEFINITION. The operand forms: the target of a relay and the slots it moves a byte between (00_scope.md R13,
30_encoding.md R105, 41_relay_channel.md R145). A command's other operands are used as decoded. -/

namespace Sys2Proof.Machine

/-- `other(e)`, the target of the relay whose source is `e` (00_scope.md R13, R17). -/
def otherEp : Ep → Ep
  | .A => .B
  | .B => .A

/-- `rx_slot[e]`. -/
def State.rxSlot (s : State) (e : Ep) : Byte := (s.ep e).rxSlot

/-- `tx_slot[e]`. -/
def State.txSlot (s : State) (e : Ep) : Byte := (s.ep e).txSlot

/-- `tx_slot[e] <- b`. -/
def State.setTxSlot (s : State) (e : Ep) (b : Byte) : State := s.setEp e { s.ep e with txSlot := b }

end Sys2Proof.Machine
end

