-- ==== Sys2Proof/Machine/Flags.lean ====
section
/-! DEFINITION. The completion flags, the arm bits, the handshake latches and the conditions a phase tests. -/

namespace Sys2Proof.Machine

/-- `flag[e]` (10_state.md R37). -/
def State.flag (s : State) (e : Ep) : Bool := (s.ep e).flag

/-- `armed[e]`, the enable of IRQ_e (10_state.md R38, 60_exceptions.md R210). -/
def State.armed (s : State) (e : Ep) : Bool := (s.ep e).armed

/-- `flag[e] <- 0`, the only value SEQ writes (10_state.md R37). -/
def State.clearFlag (s : State) (e : Ep) : State := s.setEp e { s.ep e with flag := false }

/-- `armed[e] <- 1; emit ARM(e)` (41_relay_channel.md R137, R156). -/
def State.armEp (s : State) (e : Ep) : State := (s.setEp e { s.ep e with armed := true }).emit (.arm e)

/-- `init_pend <- 1; emit INITREQ` (42_bridge_sequencer.md R175). -/
def State.requestInit (s : State) : State := { s with initPend := true }.emit .initReq

/-- `init_pend <- 0; init_ok <- r; emit INITRES(r)` (42_bridge_sequencer.md R177). -/
def State.answerInit (s : State) (r : Bool) : State := { s with initPend := false, initOk := r }.emit (.initRes r)

/-- `tx_pend <- 1; tx_t0 <- now; emit TXREQ(o, tx_slot[o])` (41_relay_channel.md R151). -/
def State.requestTx (s : State) (o : Ep) : State :=
  { s with txPend := true, txT0 := s.now }.emit (.txReq o (s.txSlot o))

/-- `tx_pend <- 0; txres <- r; emit TXRES(r)` (41_relay_channel.md R152). -/
def State.answerTx (s : State) (r : Bool) : State := { s with txPend := false, txres := r }.emit (.txRes r)

/-- `SettleDone`: `elapsed(dir_t0) > SETTLE_TICKS`, strictly (40_direction_controller.md R123). -/
def State.settleDone (s : State) : Bool := decide (s.params.settleTicks < s.elapsed s.dirT0)

/-- `elapsed(hb_last) >= HB_PERIOD` (42_bridge_sequencer.md R180). -/
def State.heartbeatDue (s : State) : Bool := decide (s.params.hbPeriod ≤ s.elapsed s.hbLast)

/-- `elapsed(hb_last) >= FATAL_BLINK_PERIOD` (60_exceptions.md R205). -/
def State.blinkDue (s : State) : Bool := decide (fatalBlinkPeriod s.params ≤ s.elapsed s.hbLast)

/-- `txres = 1 or P_TOGGLE_ON_TIMEOUT = 1` (41_relay_channel.md R157). -/
def State.relayToggles (s : State) : Bool := s.txres || s.params.toggleOnTimeout

/-- Toggles the indicator and reloads the timestamp (42_bridge_sequencer.md R180, 60_exceptions.md R205). -/
def State.blink (s : State) : State := { s.toggleLed with hbLast := s.now }

end Sys2Proof.Machine
end

