-- ==== Sys2Proof/Machine/Direction.lean ====
section
/-! DEFINITION. The Transceiver Direction Controller (40_direction_controller.md): its two primitives and `SETDIR`. -/

namespace Sys2Proof.Machine

/-- `DirWrite(d)`, the only writer of `de` (R121, R122). -/
def dirWrite (d : Dir) (s : State) : Result :=
  if d = .transmit ∧ s.de = .transmit then raiseNestedDir s
  else .next (s.writeDir d)

/-- A direction write that goes on at phase `p`. -/
def dirPhase (d : Dir) (p : Phase) (s : State) : Result := andThen (dirWrite d s) fun t => .next (t.setPh p)

/-- A phase that waits for the settle and then goes on in `t` (R123). -/
def settlePhase (s t : State) : Result := if s.settleDone then .next t else hold s

/-- `SETDIR d`: D_WRITE (R124), then D_SETTLE (R125). -/
def execSetdir (d : Dir) (s : State) : Result :=
  match s.ph with
  | 0#4 => dirPhase d 1#4 s
  | 1#4 => settlePhase s s.advance
  | _ => refuseBadPhase s

end Sys2Proof.Machine
end

