-- ==== Sys2Proof/Machine/Relay.lean ====
section
/-! DEFINITION. The Byte Relay Channel (41_relay_channel.md): `ARM`, `RXC`, `RELAY` with one definition for each of its
phases, and `TXDONE`. -/

namespace Sys2Proof.Machine

/-- `ARM e` (R137, R138). -/
def execArm (e : Ep) (s : State) : Result :=
  singlePhase s <|
    if s.flag e then raiseArmPending s
    else if s.armed e then .next s.advance
    else .next (s.armEp e).advance

/-- `RXC e, b` (R140, R141, R143): the interrupt is taken when it is enabled, else the byte is dropped. -/
def execRxc (e : Ep) (b : Byte) (s : State) : Result :=
  whenLive s <| .next (if s.armed e then takeReceive s e b else dropByte s e b)

/-- R_CHECK (R146). -/
def relayCheck (e : Ep) (s : State) : Result := .next (if s.flag e then s.setPh 1#4 else s.advance)

/-- R_CLEAR (R147). -/
def relayClear (e : Ep) (sw : Bool) (s : State) : Result :=
  .next (((s.clearFlag e).setTxSlot (otherEp e) (s.rxSlot e)).setPh (if sw then 2#4 else 4#4))

/-- R_DIRTX (R148). -/
def relayDirTx (s : State) : Result := dirPhase .transmit 3#4 s

/-- R_SETTLE_TX (R149). -/
def relaySettleTx (s : State) : Result := settlePhase s (s.setPh 4#4)

/-- R_TXREQ (R151), `o` being the target. -/
def relayTxReq (o : Ep) (s : State) : Result :=
  if o = .B ∧ s.de = .receive then raiseBusUndriven s else .next ((s.requestTx o).setPh 5#4)

/-- R_TXWAIT (R153). -/
def relayTxWait (sw : Bool) (s : State) : Result :=
  if s.txPend then hold s else .next (s.setPh (if sw then 6#4 else 8#4))

/-- R_DIRRX (R154). -/
def relayDirRx (s : State) : Result := dirPhase .receive 7#4 s

/-- R_SETTLE_RX (R155). -/
def relaySettleRx (s : State) : Result := settlePhase s (s.setPh 8#4)

/-- R_REARM (R156). -/
def relayRearm (e : Ep) (s : State) : Result := .next ((s.armEp e).setPh 9#4)

/-- R_LED (R157). -/
def relayLed (s : State) : Result := .next (if s.relayToggles then s.toggleLed else s).advance

/-- `RELAY e, sw`, one phase in each step (R145, 30_encoding.md R113; log 13). -/
def execRelay (e : Ep) (sw : Bool) (s : State) : Result :=
  match s.ph with
  | 0#4 => relayCheck e s
  | 1#4 => relayClear e sw s
  | 2#4 => relayDirTx s
  | 3#4 => relaySettleTx s
  | 4#4 => relayTxReq (otherEp e) s
  | 5#4 => relayTxWait sw s
  | 6#4 => relayDirRx s
  | 7#4 => relaySettleRx s
  | 8#4 => relayRearm e s
  | 9#4 => relayLed s
  | _ => refuseBadPhase s

/-- `TXDONE r`, enabled only while `tx_pend = 1` (R152; log 8). -/
def execTxdone (r : Bool) (s : State) : Result :=
  whenLive s <| if s.txPend then .next (s.answerTx r) else notEnabled s

end Sys2Proof.Machine
end

