-- ==== Sys2Proof/Machine/Sequencer.lean ====
section
/-! DEFINITION. The Bridge Loop sequencer's commands and events (42_bridge_sequencer.md R175 to R185) and the fatal blink
(60_exceptions.md R205). -/

namespace Sys2Proof.Machine

/-- I_REQ (R175). -/
def initReq (s : State) : Result := .next (s.requestInit.setPh 1#4)

/-- I_WAIT (R176): a failed initialisation enters the fatal state with `upc` and `ph` kept. -/
def initWait (s : State) : Result :=
  if s.initPend then hold s
  else if s.initOk then .next s.advance
  else .next (enterFatal s)

/-- `INIT`: I_REQ, then I_WAIT; met again it runs both again (R178). -/
def execInit (s : State) : Result :=
  match s.ph with
  | 0#4 => initReq s
  | 1#4 => initWait s
  | _ => refuseBadPhase s

/-- `HBEAT` (R180, R181). -/
def execHbeat (s : State) : Result :=
  singlePhase s <| .next (if s.heartbeatDue then s.blink else s).advance

/-- `JMP a` (R182, R183). -/
def execJmp (a : Addr) (s : State) : Result := singlePhase s <| .next (s.jumpTo a)

/-- `TICK` (R184). -/
def execTick (s : State) : Result := whenLive s <| .next s.tickOnce

/-- `INITDONE r`, enabled only while `init_pend = 1` (R177; log 8). -/
def execInitdone (r : Bool) (s : State) : Result :=
  whenLive s <| if s.initPend then .next (s.answerInit r) else notEnabled s

/-- Every register of 10_state.md R32 at its value in R62. What is no register of R32 stays: the model-only state, the ROM,
the parameters and the moves to come (log 10). -/
def State.resetRegisters (s : State) : State :=
  { State.reset with
    txT0 := s.txT0
    trace := s.trace
    faults := s.faults
    refusedMark := s.refusedMark
    rom := s.rom
    params := s.params
    schedule := s.schedule
    moveNo := s.moveNo }

/-- `RESET` (R185). -/
def execReset (s : State) : Result := whenLive s <| .next (s.resetRegisters.emit .rst)

/-- `FatalBlink`, SEQ's only step while `fatal = 1` (60_exceptions.md R205). -/
def fatalBlink (s : State) : Result := if s.blinkDue then .next s.blink else hold s

end Sys2Proof.Machine
end

