-- ==== Sys2Proof/Machine/Dispatch.lean ====
section
/-! DEFINITION. One arm for each row of the opcode table: the meaning of one command phase or one event. -/

namespace Sys2Proof.Machine

def exec (i : Instr) (s : State) : Host.Outcome State Fault Refusal :=
  match i with
  | .init => Sys2Proof.Machine.execInit s
  | .arm e => Sys2Proof.Machine.execArm e s
  | .setdir d => Sys2Proof.Machine.execSetdir d s
  | .relay e sw => Sys2Proof.Machine.execRelay e sw s
  | .hbeat => Sys2Proof.Machine.execHbeat s
  | .jmp a => Sys2Proof.Machine.execJmp a s
  | .rxc e b => Sys2Proof.Machine.execRxc e b s
  | .tick => Sys2Proof.Machine.execTick s
  | .txdone r => Sys2Proof.Machine.execTxdone r s
  | .initdone r => Sys2Proof.Machine.execInitdone r s
  | .reset => Sys2Proof.Machine.execReset s

end Sys2Proof.Machine
end

