-- ==== Sys2Proof/Machine/Agents.lean ====
section
/-! DEFINITION. The agents' steps (10_state.md R30, R31; 42_bridge_sequencer.md R170): SEQ's fetch, decode and dispatch, the
delivery of an event word, the choice of the agent that moves, and the placing of one word to be run next. -/

namespace Sys2Proof.Machine

/-- One SEQ step (42_bridge_sequencer.md R170), its checks in the order of 60_exceptions.md R214. -/
def seqStep (s : State) : Result :=
  if s.fatal then fatalBlink s
  else
    match decode s.fetched with
    | .instr i => if i.wellFormedIn .command then exec i s else refuseFetch s
    | .illegal _ => refuseFetch s

/-- One step of IRQ_e or ENV: the event word `w` is delivered (30_encoding.md R90, R106, R108). -/
def inputStep (w : Word) (s : State) : Result :=
  match decode w with
  | .instr i => if i.wellFormedIn .event then exec i s else refuseInput w
  | .illegal _ => refuseInput w

/-- The step of the agent whose move `m` is. -/
def moveStep (m : Move) (s : State) : Result :=
  match m with
  | .seq => seqStep s
  | .input w => inputStep w s

/-- One atomic step of the block: the next move's agent acts; in a state that holds a fault or a refusal no agent does
(10_state.md R31, R59). -/
def machineStep (s : State) : Result := whenLive s (moveStep s.nextMove s.popMove)

/-- `s` with word `w` placed so that the next step runs it: a command word in the ROM at `upc` with a SEQ move next, an
event word as the next input (log 11). A fetch needs `fatal = 0` and any step needs a run that has not ended. -/
def placeWord (s : State) (nbits w : Nat) : State :=
  let x := tableWord nbits w
  let t := { s with faults := [], refusedMark := false }
  if x.getLsbD 15 then { t with schedule := .input x :: s.schedule }
  else { t with fatal := false, rom := setRomWord s.rom s.upc x, schedule := .seq :: s.schedule }

end Sys2Proof.Machine
end

