-- ==== Sys2Proof/Machine/Views.lean ====
section
/-! DEFINITION. What is computed from the registers and not stored: the listed phases of each command (30_encoding.md R113),
the channel state (10_state.md R40), the holds (42_bridge_sequencer.md R172), the enabled moves (70_reset_and_hazards.md
R249) and the output ports (10_state.md R61). -/

namespace Sys2Proof.Machine

/-- The number of phases of a command; an event has none (30_encoding.md R113). -/
def phaseCount : Instr → Nat
  | .init => 2
  | .arm _ => 1
  | .setdir _ => 2
  | .relay _ _ => 10
  | .hbeat => 1
  | .jmp _ => 1
  | .rxc _ _ => 0
  | .tick => 0
  | .txdone _ => 0
  | .initdone _ => 0
  | .reset => 0

/-- The pair (`i`, `p`) is listed in 30_encoding.md R113. -/
def listedPhase (i : Instr) (p : Phase) : Bool := decide (p.toNat < phaseCount i)

/-- The command SEQ is at: none in the fatal state, where nothing is fetched, and at a word it would refuse. -/
def State.command (s : State) : Option Instr :=
  if s.fatal then none
  else
    match decode s.fetched with
    | .instr i => if i.wellFormedIn .command then some i else none
    | .illegal _ => none

/-- SEQ is executing `RELAY e, sw` for some `sw`. -/
def State.relaying (s : State) (e : Ep) : Bool :=
  match s.command with
  | some (.relay x _) => x == e
  | _ => false

/-- The channel state (10_state.md R40). -/
inductive ChState where
  | unarmed
  | idle
  | flagSet
  | relaying
  deriving DecidableEq, Repr

/-- Its code (30_encoding.md R112). -/
def ChState.code : ChState → BitVec 2
  | .unarmed => 0b00#2
  | .idle => 0b01#2
  | .flagSet => 0b10#2
  | .relaying => 0b11#2

/-- The condition of RELAYING: `RELAY e` at one of the phases 2 to 8 (10_state.md R40). -/
def State.inRelay (s : State) (e : Ep) : Bool := s.relaying e && decide (2 ≤ s.ph.toNat) && decide (s.ph.toNat ≤ 8)

/-- `chst[e]` (10_state.md R40); the order of the tests matters in no state that meets `Safety.ChannelInv` (log 14). -/
def chst (s : State) (e : Ep) : ChState :=
  if s.inRelay e then .relaying
  else if s.flag e then .flagSet
  else if s.armed e then .idle
  else .unarmed

/-- SEQ has no enabled step and waits (42_bridge_sequencer.md R172, 60_exceptions.md R205). -/
def seqHolds (s : State) : Bool :=
  if s.fatal then !s.blinkDue
  else
    match s.command with
    | some .init => decide (s.ph = 1) && s.initPend
    | some (.setdir _) => decide (s.ph = 1) && !s.settleDone
    | some (.relay _ _) => (decide (s.ph = 3 ∨ s.ph = 7) && !s.settleDone) || (decide (s.ph = 5) && s.txPend)
    | _ => false

/-- The event `i` is enabled (70_reset_and_hazards.md R249). -/
def eventEnabled (i : Instr) (s : State) : Bool :=
  !s.stopped &&
    match i with
    | .rxc _ _ => true
    | .tick => true
    | .reset => true
    | .txdone _ => s.txPend
    | .initdone _ => s.initPend
    | _ => false

/-- The move `m` is enabled: its agent has a step. A run whose moves are all enabled is a run of the spec (log 7, 8). -/
def moveEnabled (m : Move) (s : State) : Bool :=
  match m with
  | .seq => !s.stopped && !seqHolds s
  | .input w =>
    match decode w with
    | .instr i => eventEnabled i s
    | .illegal _ => false

/-- A strobe on an input port (10_state.md R61): `rst`, `tick`, `rxv_e` with `rxd_e`, `txdone` with `txok`, `initdone` with
`initok`. -/
inductive InStrobe where
  | rst
  | tick
  | rxv (e : Ep) (rxd : Byte)
  | txdone (txok : Bool)
  | initdone (initok : Bool)
  deriving DecidableEq, Repr

/-- The event a strobe stands for (10_state.md R61, 30_encoding.md R90). -/
def strobeEvent : InStrobe → Instr
  | .rst => .reset
  | .tick => .tick
  | .rxv e rxd => .rxc e rxd
  | .txdone txok => .txdone txok
  | .initdone initok => .initdone initok

/-- The output ports during one step (10_state.md R61). The strobes `txreq` (with `txep` and `txdata`) and `initreq` are
high for the one step that emits their event (log 16). -/
structure OutPorts where
  de : Dir
  led : Bool
  rxarmA : Bool
  rxarmB : Bool
  txreq : Option (Ep × Byte)
  txtimeout : Tick
  initreq : Bool
  deriving DecidableEq, Repr

/-- The transmit request an event shows on the ports. -/
def txRequestOf : Obs → Option (Ep × Byte)
  | .txReq e b => some (e, b)
  | _ => none

/-- The ports as the step from `s` to `t` shows them. -/
def outPorts (s t : State) : OutPorts :=
  { de := t.de
    led := t.led
    rxarmA := t.epA.armed
    rxarmB := t.epB.armed
    txreq := ((t.trace.drop s.trace.length).filterMap txRequestOf).head?
    txtimeout := t.params.txTimeout
    initreq := (t.trace.drop s.trace.length).contains .initReq }

end Sys2Proof.Machine
end

