-- ==== Sys2Proof/Safety.lean ====
section
/-! DEFINITION. The points of a run that claims speak of (42_bridge_sequencer.md R196, R197; 70_reset_and_hazards.md R250),
the host's duties, and the invariants of the block. -/

namespace Sys2Proof.Safety

open Sys2Proof.Machine

/-- L-CLEAN: the fault record is empty and the refusal mark is clear (70_reset_and_hazards.md R250). -/
def clean (s : State) : Bool := !s.stopped

/-- L-NOFLIGHT: no host answer is owed (70_reset_and_hazards.md R250). -/
def noFlight (s : State) : Bool := !s.txPend && !s.initPend

/-- L-ROM: the reference ROM. In canonical form it is the empty list. -/
def referenceRom (s : State) : Bool := decide (s.rom = [])

/-- L-RESET: every register at its value in 10_state.md R62, and an empty trace. -/
def atReset (s : State) : Prop := s.resetRegisters = s ∧ s.trace = []

/-- A quiescent point of the reference ROM (42_bridge_sequencer.md R196). -/
def quiescent (s : State) : Bool :=
  decide (s.upc = 3) && decide (s.ph = 0) && !s.fatal && !s.epA.flag && !s.epB.flag && s.epA.armed && s.epB.armed &&
    decide (s.de = .receive) && noFlight s && clean s && referenceRom s

/-- The end of a run of a test ROM: SEQ stands at `JMP .` with nothing outstanding (42_bridge_sequencer.md R197). -/
def endOfRun (s : State) : Bool :=
  decide (s.command = some (.jmp s.upc)) && decide (s.ph = 0) && noFlight s && clean s

/-- Duty TXD2 at one answer: a timeout comes only when at least `TX_TIMEOUT` ticks followed the request
(41_relay_channel.md R150). Counted modulo 2^32 (log 15). -/
def txd2 (s : State) (r : Bool) : Bool := r || decide (s.params.txTimeout ≤ s.elapsed s.txT0)

/-- Between R_CLEAR and R_REARM of its own relay an endpoint is neither flagged nor armed, at R_CLEAR it is flagged, and a
flag always excludes an arm (10_state.md R39, R40; 20_memory.md R81). -/
def ChannelInv (s : State) : Prop :=
  ∀ e : Ep,
    (s.flag e = true → s.armed e = false) ∧
    (s.relaying e = true → s.ph = 1 → s.flag e = true) ∧
    (s.inRelay e = true → s.flag e = false ∧ s.armed e = false)

/-- From R_DIRTX or R_TXREQ to R_TXWAIT of `RELAY e` the target's transmit slot holds the byte of `e`'s receive slot
(41_relay_channel.md R144). -/
def ByteInv (s : State) : Prop :=
  ∀ e : Ep, s.relaying e = true → 2 ≤ s.ph.toNat → s.ph.toNat ≤ 5 → s.txSlot (otherEp e) = s.rxSlot e

/-- A transmission is in flight only while SEQ is at R_TXWAIT of a relay, and one to B only with `de = TRANSMIT`
(40_direction_controller.md R129, 10_state.md R55). -/
def FlightInv (s : State) : Prop :=
  s.txPend = true → ∃ e sw, s.command = some (.relay e sw) ∧ s.ph = 5 ∧ (e = .A → s.de = .transmit)

/-- SEQ stands at a listed phase of its command (30_encoding.md R113, 42_bridge_sequencer.md R171). -/
def PhaseInv (s : State) : Prop := ∀ i, s.command = some i → listedPhase i s.ph = true

/-- The states of a block with the reference ROM: SEQ is at one of its seven words and a listed phase, or in the fatal state
at `INIT`, `de` is TRANSMIT exactly at the phases 3 to 6 of `RELAY A, 1`, before the loop is entered no flag is set, and
endpoint B is still unarmed where it is about to be armed (10_state.md R55, 42_bridge_sequencer.md R190). -/
def ReferenceInv (s : State) : Prop :=
  s.rom = [] ∧ s.upc.toNat ≤ 6 ∧ PhaseInv s ∧
  (s.fatal = true → s.upc = 0) ∧
  (s.de = .transmit ↔ s.fatal = false ∧ s.upc = 3 ∧ 3 ≤ s.ph.toNat ∧ s.ph.toNat ≤ 6) ∧
  (s.upc = 4 → s.ph ≠ 2 ∧ s.ph ≠ 3 ∧ s.ph ≠ 6 ∧ s.ph ≠ 7) ∧
  (s.upc.toNat ≤ 1 → s.epA.flag = false ∧ s.epA.armed = false) ∧
  (s.upc.toNat ≤ 2 → s.epB.flag = false ∧ s.epB.armed = false)

end Sys2Proof.Safety
end

