-- ==== Sys2Proof/Certificates/Slice0/Obligations.lean ====
section
/-! DEFINITION. The statements for the provers: what the commands, the events and the whole machine do, each from the
numbered rules of spec/ its docstring names. A log number names a choice of the model's. -/

open Sys2Proof Sys2Proof.Machine Sys2Proof.Safety

namespace Sys2Proof.Claims

/-- The mask and the match of each row, as 30_encoding.md R94 to R104 write them. -/
def tableMasks : List (Word × Word) :=
  [(0xFFFF, 0x0000), (0xF7FF, 0x1000), (0xFBFF, 0x2000), (0xF3FF, 0x3000), (0xFFFF, 0x4000), (0xFF00, 0x5000),
   (0xF700, 0x8000), (0xFFFF, 0x9000), (0xFBFF, 0xA000), (0xFBFF, 0xB000), (0xFFFF, 0xC000)]

/-- `w` is in the row with mask `r.1` and match `r.2`. -/
def inRow (w : Word) (r : Word × Word) : Prop := w &&& r.1 = r.2

/-- Runs a list of instructions one after another. -/
def runInstrs : List Instr → State → Result
  | [], s => .next s
  | i :: is, s => andThen (exec i s) (runInstrs is)

/-- The state with an empty trace: two states with equal registers and different event orders agree on it. -/
def quiet (s : State) : State := { s with trace := [] }

/-- The script of one relay with a direction switch whose transmit is answered `r`, each settle hold lasting `n` ticks
(95_test_vectors.md P1, steps 7 to 19). -/
def switchScript (n : Nat) (r : Bool) : List Move :=
  seqMoves 3 ++ tickMoves n ++ seqMoves 2 ++ [Instr.offer (.txdone r)] ++ seqMoves 2 ++ tickMoves n ++ seqMoves 3

/-- The script of one relay with no direction switch (95_test_vectors.md P2, steps 3 to 9). -/
def plainScript (r : Bool) : List Move := seqMoves 3 ++ [Instr.offer (.txdone r)] ++ seqMoves 3

/-- The toggle a relay's end shows, none where the transmit timed out and the parameter does not ask for one. -/
def ledEvents (s : State) (r : Bool) : List Obs := if r || s.params.toggleOnTimeout then [.led (!s.led)] else []

/-- An event that serves an endpoint or the bus: none may follow the entry to the fatal state. -/
def serves : Obs → Bool
  | .arm _ => true
  | .txReq _ _ => true
  | .de _ => true
  | _ => false

/-- Every register of 10_state.md R32 has its value in R62. -/
def atResetValues (s : State) : Prop :=
  s.de = .receive ∧ s.dirT0 = 0 ∧
  (∀ e, s.rxSlot e = 0x00 ∧ s.txSlot e = 0x00 ∧ s.flag e = false ∧ s.armed e = false) ∧
  s.now = 0 ∧ s.hbLast = 0 ∧ s.led = false ∧ s.upc = 0x00 ∧ s.ph = 0 ∧ s.txPend = false ∧ s.txres = false ∧
  s.initPend = false ∧ s.initOk = false ∧ s.fatal = false

end Sys2Proof.Claims

open Sys2Proof.Claims

/-! ## Encoding -/

/-- Words written out from 30_encoding.md R94 to R104 and R107, R109 decode as those rules say. -/
def Obligations.TableWordsDecode : Prop :=
  decode 0x0000 = .instr .init ∧ decode 0x1800 = .instr (.arm .B) ∧ decode 0x2400 = .instr (.setdir .transmit) ∧
  decode 0x3400 = .instr (.relay .A true) ∧ decode 0x3800 = .instr (.relay .B false) ∧ decode 0x4000 = .instr .hbeat ∧
  decode 0x5003 = .instr (.jmp 3) ∧ decode 0x885A = .instr (.rxc .B 0x5A) ∧ decode 0x9000 = .instr .tick ∧
  decode 0xA400 = .instr (.txdone true) ∧ decode 0xB000 = .instr (.initdone false) ∧ decode 0xC000 = .instr .reset ∧
  decode 0x1001 = .illegal .mustBeZero ∧ decode 0xFFFF = .illegal .reservedOp

/-- R117: every word is in exactly one row or ILLEGAL; it is in a row exactly when its masked bits match; the rows are
pairwise disjoint. -/
def Obligations.DecodeIsTheTable : Prop :=
  (∀ w : Word,
    (decode w = .instr .init ↔ inRow w (0xFFFF, 0x0000)) ∧
    ((∃ e, decode w = .instr (.arm e)) ↔ inRow w (0xF7FF, 0x1000)) ∧
    ((∃ d, decode w = .instr (.setdir d)) ↔ inRow w (0xFBFF, 0x2000)) ∧
    ((∃ e sw, decode w = .instr (.relay e sw)) ↔ inRow w (0xF3FF, 0x3000)) ∧
    (decode w = .instr .hbeat ↔ inRow w (0xFFFF, 0x4000)) ∧
    ((∃ a, decode w = .instr (.jmp a)) ↔ inRow w (0xFF00, 0x5000)) ∧
    ((∃ e b, decode w = .instr (.rxc e b)) ↔ inRow w (0xF700, 0x8000)) ∧
    (decode w = .instr .tick ↔ inRow w (0xFFFF, 0x9000)) ∧
    ((∃ r, decode w = .instr (.txdone r)) ↔ inRow w (0xFBFF, 0xA000)) ∧
    ((∃ r, decode w = .instr (.initdone r)) ↔ inRow w (0xFBFF, 0xB000)) ∧
    (decode w = .instr .reset ↔ inRow w (0xFFFF, 0xC000)) ∧
    ((∃ why, decode w = .illegal why) ↔ ∀ r ∈ tableMasks, ¬ inRow w r)) ∧
  tableMasks.Pairwise fun r q => ∀ w : Word, ¬ (inRow w r ∧ inRow w q)

/-- No bit of an encoding is dropped: decoding an encoded instruction gives it back, for every operand. -/
def Obligations.DecodeOfEncode : Prop := ∀ i : Instr, decode (encode i) = .instr i

/-- A legal word is the encoding of the instruction it decodes to, so that no two words decode to one instruction. -/
def Obligations.EncodeOfDecode : Prop := ∀ (w : Word) (i : Instr), decode w = .instr i → encode i = w

/-- R90, R106: bits 15:12 tell the class of a legal word, and the five reserved opcodes have no instruction. -/
def Obligations.OpFieldTellsTheClass : Prop :=
  ∀ w : Word,
    (∀ i, decode w = .instr i → (i.wellFormedIn .event = true ↔ 0x8000 ≤ w.toNat)) ∧
    (w.toNat / 4096 ∈ [0x6, 0x7, 0xD, 0xE, 0xF] ↔ decode w = .illegal .reservedOp)

/-! ## The step -/

/-- A SEQ move runs the command whose word stands at `upc`, on the state whose schedule has lost that move (R170; the
schedule is log 5). -/
def Obligations.SeqMoveRunsTheFetchedCommand : Prop :=
  ∀ (s : State) (i : Instr), s.stopped = false → s.nextMove = .seq → s.fatal = false →
    decode (romWord s.rom s.upc) = .instr i → i.wellFormedIn .command = true → step s = exec i s.popMove

/-- An input move runs the event its word encodes, at any SEQ phase, in a hold and in the fatal state (R143, R212; log 5). -/
def Obligations.InputMoveRunsTheEvent : Prop :=
  ∀ (s : State) (w : Word) (i : Instr), s.stopped = false → s.nextMove = .input w → decode w = .instr i →
    i.wellFormedIn .event = true → step s = exec i s.popMove

/-- The next move is the schedule's head (R31; log 5). Past its end it is read off the free word of its number, a SEQ step where
that word is no legal event, so that it is always legal and nothing else constrains it (log 6). Taking it changes no register. -/
def Obligations.MovesComeFromTheScheduleThenFreely : Prop :=
  (∀ (s : State) (m : Move) (ms : List Move), s.schedule = m :: ms → s.nextMove = m ∧ s.popMove = { s with schedule := ms }) ∧
  (∀ s : State, s.schedule = [] → s.nextMove = freeMove s.moveNo ∧ s.popMove = { s with moveNo := s.moveNo + 1 }) ∧
  ∀ n, (freeMove n).legal = true ∧
    freeMove n = if isEventWord (Config.freeWord n) then .input (Config.freeWord n) else .seq

/-- R108: an event word in the ROM and a command word on the input stream are refused as ILLEGAL_WORD, and so is a word that
decodes to nothing (R106, R107), wherever it comes from (schedule: log 5). The information of a refused input word is the model's
choice (log 18). -/
def Obligations.WrongOrIllegalWordsAreRefused : Prop :=
  (∀ s : State, s.stopped = false → s.nextMove = .seq → s.fatal = false →
    (0x8000 ≤ (romWord s.rom s.upc).toNat ∨ ∃ why, decode (romWord s.rom s.upc) = .illegal why) →
    step s = .refused (.illegalWord (.rom s.upc) (romWord s.rom s.upc))) ∧
  (∀ (s : State) (w : Word), s.stopped = false → s.nextMove = .input w →
    (w.toNat < 0x8000 ∨ ∃ why, decode w = .illegal why) → step s = .refused (.illegalWord .input w))

/-- R59: record and mark are clear at launch, no step clears or sets them while the run goes on, and a state with either has
no further step, not even RESET, and is no final state. That having no step shows as `runEnded` is log 9. -/
def Obligations.AnEndedRunHasNoStep : Prop :=
  State.reset.faults = [] ∧ State.reset.refusedMark = false ∧
  (∀ s t : State, step s = .next t → t.faults = s.faults ∧ t.refusedMark = s.refusedMark) ∧
  (∀ s : State, s.faults ≠ [] ∨ s.refusedMark = true →
    step s = .fault .runEnded ∧ exec .reset s = .fault .runEnded ∧ endOfRun s = false ∧ quiescent s = false)

/-- R201, R202: a faulting step writes nothing but the record (code, upc, ROM[upc]), with code 1 for NESTED_DIR, 2 for BUS_UNDRIVEN
and 3 for ARM_PENDING, and no agent has a step after it. The form of the outcomes is log 9. -/
def Obligations.AFaultWritesOnlyTheRecord : Prop :=
  ∀ (s : State) (f : Fault), s.stopped = false → step s = .fault f →
    ∃ code : Nat,
      ((f = .nestedDir s.upc (romWord s.rom s.upc) ∧ code = 1) ∨ (f = .busUndriven s.upc (romWord s.rom s.upc) ∧ code = 2) ∨
        (f = .armPending s.upc (romWord s.rom s.upc) ∧ code = 3)) ∧
      afterOutcome s (step s) = { s with faults := s.faults ++ [⟨code, s.upc, romWord s.rom s.upc⟩] } ∧
      step (afterOutcome s (step s)) = .fault .runEnded

/-- R202: the conditions of the three faults and no others; an event faults only in an ended run (R217). That `RELAY e, 0` at
phase 2 runs R_DIRTX is log 13, `runEnded` is log 9, and that a command does not test for the end of the run itself is log 19.
Their codes are in `AFaultWritesOnlyTheRecord`. -/
def Obligations.FaultsAreExactlyTheListedBreaches : Prop :=
  ∀ (i : Instr) (s : State) (f : Fault), exec i s = .fault f ↔
    (f = .nestedDir s.upc (romWord s.rom s.upc) ∧ s.de = .transmit ∧
      ((i = .setdir .transmit ∧ s.ph = 0) ∨ ∃ e sw, i = .relay e sw ∧ s.ph = 2)) ∨
    (f = .busUndriven s.upc (romWord s.rom s.upc) ∧ s.de = .receive ∧ ∃ sw, i = .relay .A sw ∧ s.ph = 4) ∨
    (f = .armPending s.upc (romWord s.rom s.upc) ∧ ∃ e, i = .arm e ∧ s.ph = 0 ∧ s.flag e = true) ∨
    (f = .runEnded ∧ s.stopped = true ∧ i.wellFormedIn .event = true)

/-- R113, R171: a meaning refuses exactly at a phase its command does not have, and then with BAD_PHASE. That the phases 2, 3, 6
and 7 are listed for `RELAY e, 0` too is log 13, and the refusal's information is log 22. -/
def Obligations.BadPhasesAreExactlyTheUnlistedOnes : Prop :=
  ∀ (i : Instr) (s : State) (r : Refusal), exec i s = .refused r ↔
    i.wellFormedIn .command = true ∧ listedPhase i s.ph = false ∧ r = .badPhase s.upc s.ph

/-! ## The commands and the events -/

/-- R62: every register at the start of a run and after every `RESET`; R58: the trace is empty at the start. -/
def Obligations.ResetValues : Prop :=
  atResetValues State.reset ∧ State.reset.trace = [] ∧ ∀ s t : State, exec .reset s = .next t → atResetValues t

/-- R190: the reference ROM's seven words, the filler everywhere else. -/
def Obligations.ReferenceRomWords : Prop :=
  romWord State.reset.rom 0x00 = encode .init ∧ romWord State.reset.rom 0x01 = encode (.arm .A) ∧
  romWord State.reset.rom 0x02 = encode (.arm .B) ∧ romWord State.reset.rom 0x03 = encode (.relay .A true) ∧
  romWord State.reset.rom 0x04 = encode (.relay .B false) ∧ romWord State.reset.rom 0x05 = encode .hbeat ∧
  romWord State.reset.rom 0x06 = encode (.jmp 0x03) ∧
  ∀ a : Addr, 0x07 ≤ a.toNat → romWord State.reset.rom a = 0xFFFF

/-- R175: I_REQ asks for the initialisation, on the port too. -/
def Obligations.InitRequestsInitialisation : Prop :=
  ∀ s : State, s.ph = 0 → ∃ t, exec .init s = .next t ∧
    t = { s with initPend := true, trace := s.trace ++ [.initReq], ph := 1 } ∧ (outPorts s t).initreq = true

/-- R176, R204: I_WAIT holds while unanswered (log 7), goes on after a success, and after a failure enters the fatal state with
everything else kept. -/
def Obligations.InitWaitsThenBootsOrDies : Prop :=
  ∀ s : State, s.ph = 1 → exec .init s = .next
    (if s.initPend then s
     else if s.initOk then { s with upc := s.upc + 1, ph := 0 }
     else { s with fatal := true, trace := s.trace ++ [.fatal] })

/-- R137: `ARM e` arms an unarmed endpoint, leaves an armed one alone, and faults on a pending flag. -/
def Obligations.ArmArmsOnce : Prop :=
  ∀ (s : State) (e : Ep), s.ph = 0 →
    (s.flag e = true → exec (.arm e) s = .fault (.armPending s.upc (romWord s.rom s.upc))) ∧
    (s.flag e = false → s.armed e = true → exec (.arm e) s = .next { s with upc := s.upc + 1, ph := 0 }) ∧
    (s.flag e = false → s.armed e = false → exec (.arm e) s = .next
      { s.setEp e { s.ep e with armed := true } with trace := s.trace ++ [.arm e], upc := s.upc + 1, ph := 0 })

/-- R124: D_WRITE writes the direction and its time, or faults on a nested switch to TRANSMIT. -/
def Obligations.SetdirWritesTheDirection : Prop :=
  ∀ (s : State) (d : Dir), s.ph = 0 →
    (d = .transmit → s.de = .transmit → exec (.setdir d) s = .fault (.nestedDir s.upc (romWord s.rom s.upc))) ∧
    (d = .receive ∨ s.de = .receive → exec (.setdir d) s =
      .next { s with de := d, dirT0 := s.now, trace := s.trace ++ [.de d], ph := 1 })

/-- R125: D_SETTLE ends once more than SETTLE_TICKS ticks have passed, and holds before (log 7). -/
def Obligations.SetdirSettles : Prop :=
  ∀ (s : State) (d : Dir), s.ph = 1 → exec (.setdir d) s = .next
    (if s.params.settleTicks.toNat < (s.now - s.dirT0).toNat then { s with upc := s.upc + 1, ph := 0 } else s)

/-- R146: R_CHECK goes on with the relay exactly when the flag is set, and passes on at once when it is not. -/
def Obligations.RelayChecksTheFlag : Prop :=
  ∀ (s : State) (e : Ep) (sw : Bool), s.ph = 0 → exec (.relay e sw) s = .next
    (if s.flag e then { s with ph := 1 } else { s with upc := s.upc + 1, ph := 0 })

/-- R147: R_CLEAR clears the flag and copies the byte into the target's transmit slot in one step. -/
def Obligations.RelayClearsAndCopies : Prop :=
  ∀ (s : State) (e : Ep) (sw : Bool), s.ph = 1 → ∃ t, exec (.relay e sw) s = .next t ∧
    t.ep e = { s.ep e with flag := false } ∧
    t.ep (otherEp e) = { s.ep (otherEp e) with txSlot := s.rxSlot e } ∧
    t = { s with epA := t.epA, epB := t.epB, ph := if sw then 2 else 4 }

/-- R148, R154: R_DIRTX switches to TRANSMIT or faults on a nested switch, and R_DIRRX switches to RECEIVE and cannot fault. The
rules say it of `sw = 1`; that `RELAY e, 0` does the same at those phases is log 13. -/
def Obligations.RelaySwitchesTheDirection : Prop :=
  ∀ (s : State) (e : Ep) (sw : Bool),
    (s.ph = 2 → s.de = .transmit → exec (.relay e sw) s = .fault (.nestedDir s.upc (romWord s.rom s.upc))) ∧
    (s.ph = 2 → s.de = .receive → exec (.relay e sw) s =
      .next { s with de := .transmit, dirT0 := s.now, trace := s.trace ++ [.de .transmit], ph := 3 }) ∧
    (s.ph = 6 → exec (.relay e sw) s =
      .next { s with de := .receive, dirT0 := s.now, trace := s.trace ++ [.de .receive], ph := 7 })

/-- R149, R155: both settle phases end once more than SETTLE_TICKS ticks have passed, and hold before (log 7). That `RELAY e, 0`
does the same at those phases is log 13. -/
def Obligations.RelaySettles : Prop :=
  ∀ (s : State) (e : Ep) (sw : Bool),
    (s.ph = 3 → exec (.relay e sw) s =
      .next (if s.params.settleTicks.toNat < (s.now - s.dirT0).toNat then { s with ph := 4 } else s)) ∧
    (s.ph = 7 → exec (.relay e sw) s =
      .next (if s.params.settleTicks.toNat < (s.now - s.dirT0).toNat then { s with ph := 8 } else s))

/-- R151: R_TXREQ hands the transmit slot's byte to the transmitter, on the ports too, or faults when B's bus is not driven. -/
def Obligations.RelayRequestsTheTransmit : Prop :=
  ∀ (s : State) (e : Ep) (sw : Bool), s.ph = 4 →
    (otherEp e = .B ∧ s.de = .receive → exec (.relay e sw) s = .fault (.busUndriven s.upc (romWord s.rom s.upc))) ∧
    (¬ (otherEp e = .B ∧ s.de = .receive) → ∃ t, exec (.relay e sw) s = .next t ∧
      t = { s with txPend := true, txT0 := s.now, trace := s.trace ++ [.txReq (otherEp e) (s.txSlot (otherEp e))], ph := 5 } ∧
      (outPorts s t).txreq = some (otherEp e, s.txSlot (otherEp e)) ∧ (outPorts s t).txtimeout = s.params.txTimeout)

/-- R153: R_TXWAIT holds until the answer (log 7), and the answer's result does not change the path. -/
def Obligations.RelayWaitsForTheAnswer : Prop :=
  ∀ (s : State) (e : Ep) (sw : Bool), s.ph = 5 → exec (.relay e sw) s = .next
    (if s.txPend then s else if sw then { s with ph := 6 } else { s with ph := 8 })

/-- R156: R_REARM arms the source endpoint, whatever the transmit's result (R160). -/
def Obligations.RelayRearms : Prop :=
  ∀ (s : State) (e : Ep) (sw : Bool), s.ph = 8 → ∃ t, exec (.relay e sw) s = .next t ∧
    t.ep e = { s.ep e with armed := true } ∧ t.ep (otherEp e) = s.ep (otherEp e) ∧
    t = { s with epA := t.epA, epB := t.epB, trace := s.trace ++ [.arm e], ph := 9 }

/-- R157: R_LED toggles the indicator after a success, or after a timeout too where the parameter asks for it. -/
def Obligations.RelayTogglesTheIndicator : Prop :=
  ∀ (s : State) (e : Ep) (sw : Bool), s.ph = 9 → exec (.relay e sw) s = .next
    (if s.txres = true ∨ s.params.toggleOnTimeout = true then
      { s with led := !s.led, trace := s.trace ++ [.led (!s.led)], upc := s.upc + 1, ph := 0 }
     else { s with upc := s.upc + 1, ph := 0 })

/-- R180: `HBEAT` toggles once and reloads the timestamp when the period has elapsed, and never holds. -/
def Obligations.HeartbeatToggles : Prop :=
  ∀ s : State, s.ph = 0 → exec .hbeat s = .next
    (if s.params.hbPeriod.toNat ≤ (s.now - s.hbLast).toNat then
      { s with led := !s.led, hbLast := s.now, trace := s.trace ++ [.led (!s.led)], upc := s.upc + 1, ph := 0 }
     else { s with upc := s.upc + 1, ph := 0 })

/-- R182: `JMP a` sets the address and the phase and nothing else. -/
def Obligations.JumpSetsTheAddress : Prop :=
  ∀ (s : State) (a : Addr), s.ph = 0 → exec (.jmp a) s = .next { s with upc := a, ph := 0 }

/-- R140, R141, R143: an armed endpoint takes the byte, is disarmed and flagged in one step; on an unarmed one no register
changes; the event is enabled in every state of a run that has not ended. -/
def Obligations.ReceiveTakesOrDrops : Prop :=
  ∀ (s : State) (e : Ep) (b : Byte), s.stopped = false → eventEnabled (.rxc e b) s = true ∧
    (s.armed e = true → exec (.rxc e b) s = .next
      { s.setEp e { s.ep e with rxSlot := b, armed := false, flag := true } with trace := s.trace ++ [.rx e b] }) ∧
    (s.armed e = false → exec (.rxc e b) s = .next { s with trace := s.trace ++ [.drop e b] })

/-- R184: `TICK` advances `now` modulo 2^32, and is enabled in every state of a run that has not ended. -/
def Obligations.TickAdvancesTime : Prop :=
  ∀ s : State, s.stopped = false → eventEnabled .tick s = true ∧
    ∃ t, exec .tick s = .next t ∧ t = { s with now := t.now } ∧ t.now.toNat = (s.now.toNat + 1) % 2 ^ 32

/-- R152: `TXDONE r` answers an outstanding transmit, and is not enabled otherwise. -/
def Obligations.TransmitIsAnswered : Prop :=
  ∀ (s : State) (r : Bool), s.stopped = false →
    (s.txPend = true → exec (.txdone r) s =
      .next { s with txPend := false, txres := r, trace := s.trace ++ [.txRes r] }) ∧
    (eventEnabled (.txdone r) s = true ↔ s.txPend = true)

/-- R177: `INITDONE r` answers an outstanding initialisation, and is not enabled otherwise. -/
def Obligations.InitialisationIsAnswered : Prop :=
  ∀ (s : State) (r : Bool), s.stopped = false →
    (s.initPend = true → exec (.initdone r) s =
      .next { s with initPend := false, initOk := r, trace := s.trace ++ [.initRes r] }) ∧
    (eventEnabled (.initdone r) s = true ↔ s.initPend = true)

/-- R185: `RESET` puts every register at its value in R62 and appends RST, in every state of a run that has not ended and in
no other. -/
def Obligations.ResetRestoresEveryRegister : Prop :=
  ∀ s : State,
    (s.stopped = false → ∃ t, exec .reset s = .next t ∧ atResetValues t ∧ t.trace = s.trace ++ [.rst]) ∧
    (eventEnabled .reset s = true ↔ s.stopped = false)

/-- R205, R214: in the fatal state a SEQ move only blinks, fetching nothing, and holds between blinks (log 7). The period is
log 4, and log 23 where a fixed one lies outside the bound of R9. -/
def Obligations.FatalStateOnlyBlinks : Prop :=
  ∀ s : State, s.stopped = false → s.nextMove = .seq → s.fatal = true → step s = .next
    (if (fatalBlinkPeriod s.params).toNat ≤ (s.now - s.hbLast).toNat then
      { s.popMove with led := !s.led, hbLast := s.now, trace := s.trace ++ [.led (!s.led)] }
     else s.popMove)

/-- R205: while it is open, the blink period is a free number brought into the spec's bound: only a value the bound allows, and,
the number being without a body, any of them (log 4). -/
def Obligations.OpenBlinkPeriodMeetsItsBound : Prop :=
  ∀ p : Params, p.fatalBlink = none → 2 ≤ p.hbPeriod.toNat →
    (fatalBlinkPeriod p).toNat = 1 + Config.freeFatalPeriod % (p.hbPeriod.toNat - 1) ∧
    0 < (fatalBlinkPeriod p).toNat ∧ (fatalBlinkPeriod p).toNat < p.hbPeriod.toNat

/-! ## Frames and whole-machine rules -/

/-- A move the spec does not enable (R249; a SEQ hold, R172) leaves the state as it was, but for the move itself (log 7, 8). -/
def Obligations.DisabledMovesChangeNothing : Prop :=
  ∀ s : State, s.stopped = false → s.nextMove.legal = true → moveEnabled s.nextMove s = false → step s = .next s.popMove

/-- R57, R71, R84, R10: no instruction writes a byte of the ROM, a parameter, or the model's own schedule and counter. -/
def Obligations.NoInstructionWritesRomOrParameters : Prop :=
  ∀ (i : Instr) (s t : State), exec i s = .next t →
    (∀ c, readCell t.rom c = readCell s.rom c) ∧ t.rom = s.rom ∧ t.params = s.params ∧ t.schedule = s.schedule ∧
    t.moveNo = s.moveNo ∧ t.faults = s.faults ∧ t.refusedMark = s.refusedMark

/-- The ROM's canonical form, the ROM itself and the parameters survive every step (R71, R84; log 1, 2). -/
def Obligations.EveryStepKeepsTheRom : Prop :=
  ∀ s t : State, s.rom.wf = true → step s = .next t →
    t.rom.wf = true ∧ t.params = s.params ∧ ∀ a, romWord t.rom a = romWord s.rom a

/-- Building a ROM with one word changed: that word is read back, every other word stays, the form is kept (log 1, 2). -/
def Obligations.PlacedWordIsReadBack : Prop :=
  ∀ (m : Memory) (a b : Addr) (w : Word), m.wf = true →
    Memory.wf (setRomWord m a w) = true ∧ romWord (setRomWord m a w) b = if b = a then w else romWord m b

/-- R32, R56: who writes each register. A register named here changes only by the events, or the phases of the commands, listed,
and a completion flag, an arm bit and the handshake latches change only in the direction their writer has. That the phases 2 and 6
of `RELAY e, 0` write the direction is log 13; `tx_t0` is no register of R32 and RESET keeps it (log 10). -/
def Obligations.RegistersHaveTheirListedWriters : Prop :=
  ∀ (i : Instr) (s t : State), exec i s = .next t → i ≠ .reset →
    ((t.de ≠ s.de ∨ t.dirT0 ≠ s.dirT0) →
      (∃ d, i = .setdir d ∧ s.ph = 0) ∨ ∃ e sw, i = .relay e sw ∧ (s.ph = 2 ∨ s.ph = 6)) ∧
    (∀ e, t.rxSlot e ≠ s.rxSlot e → ∃ b, i = .rxc e b) ∧
    (∀ e, t.txSlot e ≠ s.txSlot e → ∃ sw, i = .relay (otherEp e) sw ∧ s.ph = 1) ∧
    (∀ e, t.flag e ≠ s.flag e →
      (t.flag e = true ∧ ∃ b, i = .rxc e b) ∨ (t.flag e = false ∧ ∃ sw, i = .relay e sw ∧ s.ph = 1)) ∧
    (∀ e, t.armed e ≠ s.armed e →
      (t.armed e = false ∧ ∃ b, i = .rxc e b) ∨ (t.armed e = true ∧ ((i = .arm e ∧ s.ph = 0) ∨ ∃ sw, i = .relay e sw ∧ s.ph = 8))) ∧
    (t.now ≠ s.now → i = .tick) ∧ (t.hbLast ≠ s.hbLast → i = .hbeat ∧ s.ph = 0) ∧
    (t.led ≠ s.led → (i = .hbeat ∧ s.ph = 0) ∨ ∃ e sw, i = .relay e sw ∧ s.ph = 9) ∧
    ((t.upc ≠ s.upc ∨ t.ph ≠ s.ph) → i.wellFormedIn .command = true) ∧
    (t.txPend ≠ s.txPend →
      (t.txPend = true ∧ ∃ e sw, i = .relay e sw ∧ s.ph = 4) ∨ (t.txPend = false ∧ ∃ r, i = .txdone r)) ∧
    (t.txres ≠ s.txres → ∃ r, i = .txdone r) ∧
    (t.initPend ≠ s.initPend → (t.initPend = true ∧ i = .init ∧ s.ph = 0) ∨ (t.initPend = false ∧ ∃ r, i = .initdone r)) ∧
    (t.initOk ≠ s.initOk → ∃ r, i = .initdone r) ∧
    (t.fatal ≠ s.fatal → t.fatal = true ∧ i = .init ∧ s.ph = 1 ∧ s.initPend = false ∧ s.initOk = false) ∧
    (t.txT0 ≠ s.txT0 → ∃ e sw, i = .relay e sw ∧ s.ph = 4)

/-- R142, R215, R216 for RXC, and R32, R152, R177, R184 for TICK, TXDONE and INITDONE: they leave SEQ where it stood and change no
sequencer register, no direction, no indicator and no transmit slot; an answer nobody asked for changes nothing (log 8). -/
def Obligations.EventsLeaveTheSequencerAlone : Prop :=
  ∀ (i : Instr) (s t : State), i.wellFormedIn .event = true → i ≠ .reset → exec i s = .next t →
    t.upc = s.upc ∧ t.ph = s.ph ∧ t.fatal = s.fatal ∧ t.de = s.de ∧ t.dirT0 = s.dirT0 ∧ t.led = s.led ∧
    t.hbLast = s.hbLast ∧ (∀ e, t.txSlot e = s.txSlot e) ∧ t.txT0 = s.txT0

/-- R58: a step appends at most one event to the trace and takes none away. -/
def Obligations.AStepEmitsAtMostOneEvent : Prop :=
  ∀ s t : State, step s = .next t → t.trace = s.trace ∨ ∃ o, t.trace = s.trace ++ [o]

/-- R58, R61: no output level changes unseen: a new `de` or `led`, and an arm bit that rises or falls, show in the trace of the
same step. The one other level, `txtimeout`, is a constant (`EveryStepKeepsTheRom`). -/
def Obligations.OutputChangesShowInTheTrace : Prop :=
  ∀ s t : State, step s = .next t →
    (t.de ≠ s.de → t.trace = s.trace ++ [.de t.de] ∨ t.trace = s.trace ++ [.rst]) ∧
    (t.led ≠ s.led → t.trace = s.trace ++ [.led t.led] ∨ t.trace = s.trace ++ [.rst]) ∧
    (∀ e, t.armed e = true → s.armed e = false → t.trace = s.trace ++ [.arm e]) ∧
    (∀ e, t.armed e = false → s.armed e = true → (∃ b, t.trace = s.trace ++ [.rx e b]) ∨ t.trace = s.trace ++ [.rst])

/-- R61, R151, R175: the strobe ports are high for exactly the step of their request. -/
def Obligations.StrobesFollowTheRequests : Prop :=
  ∀ (i : Instr) (s t : State), exec i s = .next t →
    ((outPorts s t).initreq = true ↔ i = .init ∧ s.ph = 0) ∧
    ∀ o b, (outPorts s t).txreq = some (o, b) ↔ ∃ sw, i = .relay (otherEp o) sw ∧ s.ph = 4 ∧ b = s.txSlot o

/-- R86, R213: the order of the two interrupt agents changes no register, only the order of their events. -/
def Obligations.InterruptOrderChangesNoRegister : Prop :=
  ∀ (s : State) (a b : Byte), s.stopped = false → ∃ t u,
    runInstrs [.rxc .A a, .rxc .B b] s = .next t ∧ runInstrs [.rxc .B b, .rxc .A a] s = .next u ∧ quiet t = quiet u

/-- R51, R206: only RESET leaves the fatal state; until then every step keeps `upc`, `ph`, `de` and the transmit slots, and
shows no ARM, TXREQ or DE event. -/
def Obligations.OnlyResetLeavesTheFatalState : Prop :=
  ∀ s t : State, s.fatal = true → step s = .next t → s.nextMove ≠ .input 0xC000 →
    t.fatal = true ∧ t.upc = s.upc ∧ t.ph = s.ph ∧ t.de = s.de ∧ (∀ e, t.txSlot e = s.txSlot e) ∧
    (∀ e, t.armed e = true → s.armed e = true) ∧
    ∃ es : List Obs, t.trace = s.trace ++ es ∧ ∀ o ∈ es, serves o = false

/-- R123, R132: after a direction write the settle hold lasts until more than SETTLE_TICKS ticks have come, and no longer. -/
def Obligations.SettleLastsItsTicks : Prop :=
  ∀ (s : State) (n : Nat), s.stopped = false → s.dirT0 = s.now → n < 2 ^ 32 →
    ∃ t, runInstrs (List.replicate n .tick) s = .next t ∧ t = { s with now := t.now } ∧
      (t.settleDone = true ↔ s.params.settleTicks.toNat < n)

/-- R180, R195: two heartbeat toggles are at least HB_PERIOD ticks apart, and a period's end is never missed: after a toggle and
`n` ticks, `HBEAT` toggles exactly when `n` has reached the period. -/
def Obligations.HeartbeatsAreAPeriodApart : Prop :=
  ∀ (s t : State) (n : Nat), s.stopped = false → s.ph = 0 → s.heartbeatDue = true → exec .hbeat s = .next t → n < 2 ^ 32 →
    ∃ u v, runInstrs (List.replicate n .tick) t = .next u ∧ exec .hbeat u = .next v ∧
      (v.led ≠ u.led ↔ s.params.hbPeriod.toNat ≤ n)

/-! ## Invariants that every step keeps -/

/-- R39, R81: a flag excludes an arm, and a relay in progress owns its endpoint; every step keeps it. -/
def Obligations.ChannelInvIsKept : Prop := ∀ s t : State, ChannelInv s → step s = .next t → ChannelInv t

/-- The channel invariant holds after reset, and gives R39. -/
def Obligations.ChannelInvAtReset : Prop :=
  ChannelInv State.reset ∧ ∀ s e, ChannelInv s → s.flag e = true → s.armed e = false

/-- R74, R81, R144: while the flag is set no step but a RESET overwrites the slot; during a relay the target's transmit slot
holds the source's receive slot; and the byte handed to the transmitter is the byte received. -/
def Obligations.RelayedByteIsTheReceivedByte : Prop :=
  ByteInv State.reset ∧
  ∀ s t : State, ChannelInv s → ByteInv s → step s = .next t →
    ByteInv t ∧ (∀ o b, t.trace = s.trace ++ [.txReq o b] → b = s.rxSlot (otherEp o)) ∧
    ∀ e, s.flag e = true → s.nextMove ≠ .input 0xC000 → t.rxSlot e = s.rxSlot e

/-- R129, R150 (TXD4): a transmission is in flight only while SEQ holds at R_TXWAIT, one on B only with `de = TRANSMIT`, and the
direction does not move until the answer or a RESET. -/
def Obligations.FlightInvIsKept : Prop :=
  FlightInv State.reset ∧
  ∀ s t : State, FlightInv s → step s = .next t →
    FlightInv t ∧ (s.txPend = true → s.nextMove ≠ .input 0xC000 → t.de = s.de)

/-- R171: no rule produces an unlisted (command, phase) pair: from a listed one every step leads to a listed one and none is
refused with BAD_PHASE. Listed are the phases 2, 3, 6 and 7 of `RELAY e, 0` too (log 13). -/
def Obligations.ListedPhasesAreKept : Prop :=
  PhaseInv State.reset ∧
  ∀ s : State, PhaseInv s → (∀ t, step s = .next t → PhaseInv t) ∧ ∀ a p, step s ≠ .refused (.badPhase a p)

/-- R55, R190, R202: with the reference ROM `de` is TRANSMIT exactly at phases 3 to 6 of `RELAY A, 1`; every step keeps this, and
every legal move of a run that has not ended answers a next state, so that legal moves reach no fault and no refusal. At a SEQ hold
that next state is log 7, and for an unrequested TXDONE or INITDONE it is log 8: there the spec has no step. The moves are log 5
and 6. -/
def Obligations.ReferenceRomNeverFaults : Prop :=
  ReferenceInv State.reset ∧
  ∀ s : State, ReferenceInv s →
    (∀ t, step s = .next t → ReferenceInv t) ∧
    (s.stopped = false → s.nextMove.legal = true → ∃ t, step s = .next t)

/-- R40: in a state that meets the channel invariant no two conditions of the channel state hold at once. -/
def Obligations.ChannelStatesExclude : Prop :=
  ∀ (s : State) (e : Ep), ChannelInv s →
    (chst s e = .idle ↔ s.armed e = true) ∧ (chst s e = .flagSet ↔ s.flag e = true) ∧
    (chst s e = .relaying ↔ s.inRelay e = true) ∧
    (chst s e = .unarmed ↔ s.armed e = false ∧ s.flag e = false ∧ s.inRelay e = false)

/-- R136: the transitions of the channel state of endpoint `e`. -/
def Obligations.ChannelTransitions : Prop :=
  ∀ (s t : State) (e : Ep), ChannelInv s →
    (∀ b, exec (.rxc e b) s = .next t → chst t e = if chst s e = .idle then .flagSet else chst s e) ∧
    (∀ b, exec (.rxc (otherEp e) b) s = .next t → chst t e = chst s e) ∧
    (s.command = some (.arm e) → exec (.arm e) s = .next t → chst s e = .unarmed ∨ chst s e = .idle → chst t e = .idle) ∧
    (s.command = some (.arm e) → s.ph = 0 → chst s e = .flagSet →
      exec (.arm e) s = .fault (.armPending s.upc (romWord s.rom s.upc))) ∧
    (∀ sw, s.command = some (.relay e sw) → s.ph = 1 → exec (.relay e sw) s = .next t →
      chst s e = .flagSet ∧ chst t e = .relaying) ∧
    (∀ sw, s.command = some (.relay e sw) → s.ph = 8 → exec (.relay e sw) s = .next t →
      chst s e = .relaying ∧ chst t e = .idle) ∧
    (exec .reset s = .next t → chst t e = .unarmed)

/-! ## One whole relay -/

/-- R159, R160, S6: a relay with a direction switch, whatever the byte, the ROM around it and the answer: the trace is the source's
sequence, and the source endpoint is armed again even after a timeout. The schedule is log 5. -/
def Obligations.RelayWithSwitchCarriesTheByte : Prop :=
  ∀ (s : State) (e : Ep) (r : Bool) (n : Nat) (rest : List Move),
    s.stopped = false → s.command = some (.relay e true) → s.ph = 0 → s.flag e = true → s.de = .receive →
    n = s.params.settleTicks.toNat + 1 → n < 2 ^ 32 → s.schedule = switchScript n r ++ rest →
    ∃ t, Host.Core.run Sys2Proof.core (switchScript n r).length s = .next t ∧
      t.trace = s.trace ++ [.de .transmit, .txReq (otherEp e) (s.rxSlot e), .txRes r, .de .receive, .arm e] ++
        ledEvents s r ∧
      t.upc = s.upc + 1 ∧ t.ph = 0 ∧ t.de = .receive ∧ t.txPend = false ∧ t.txres = r ∧
      t.led = (s.led ^^ (r || s.params.toggleOnTimeout)) ∧
      t.ep e = { s.ep e with flag := false, armed := true } ∧
      t.ep (otherEp e) = { s.ep (otherEp e) with txSlot := s.rxSlot e } ∧
      t.now = s.now + BitVec.ofNat 32 (2 * n) ∧ t.hbLast = s.hbLast ∧ t.rom = s.rom ∧ t.schedule = rest

/-- R194, R199, S2: a relay with no direction switch needs no tick and shows no DE event. That `RELAY A, 0` runs so with
`de = TRANSMIT` is R158 item 2. The schedule is log 5. -/
def Obligations.RelayWithoutSwitchCarriesTheByte : Prop :=
  ∀ (s : State) (e : Ep) (r : Bool) (rest : List Move),
    s.stopped = false → s.command = some (.relay e false) → s.ph = 0 → s.flag e = true →
    ¬ (otherEp e = .B ∧ s.de = .receive) → s.schedule = plainScript r ++ rest →
    ∃ t, Host.Core.run Sys2Proof.core (plainScript r).length s = .next t ∧
      t.trace = s.trace ++ [.txReq (otherEp e) (s.rxSlot e), .txRes r, .arm e] ++ ledEvents s r ∧
      t.upc = s.upc + 1 ∧ t.ph = 0 ∧ t.de = s.de ∧ t.dirT0 = s.dirT0 ∧ t.txPend = false ∧ t.txres = r ∧
      t.led = (s.led ^^ (r || s.params.toggleOnTimeout)) ∧
      t.ep e = { s.ep e with flag := false, armed := true } ∧
      t.ep (otherEp e) = { s.ep (otherEp e) with txSlot := s.rxSlot e } ∧
      t.now = s.now ∧ t.hbLast = s.hbLast ∧ t.rom = s.rom ∧ t.schedule = rest
end

