-- ==== Sys2Proof/Laws/Decode.lean ====
section
/-! SUPPORT. The fields of a packed word, read back. -/

namespace Sys2Proof

@[simp] theorem opField_packWord (op : BitVec 4) (e f : BitVec 1) (imm : BitVec 8) : opField (packWord op e f imm) = op := by
  ext i hi
  simp [opField, packWord, ← BitVec.getLsbD_eq_getElem, BitVec.getLsbD_of_ge, hi, show i < 16 by omega,
    show 12 + i < 16 by omega, show 1 ≤ 12 + i - 11 by omega, show 1 ≤ 12 + i - 10 by omega, show 8 ≤ 12 + i by omega]

@[simp] theorem imm8Field_packWord (op : BitVec 4) (e f : BitVec 1) (imm : BitVec 8) :
    imm8Field (packWord op e f imm) = imm := by
  ext i hi
  simp [imm8Field, packWord, show i < 12 by omega, show i < 11 by omega, show i < 10 by omega, show i < 16 by omega, hi]

@[simp] theorem flagField_packWord (op : BitVec 4) (e f : BitVec 1) (imm : BitVec 8) :
    flagField (packWord op e f imm) = f.getLsbD 0 := by
  simp [flagField, packWord, BitVec.getLsbD_of_ge]

@[simp] theorem epField_packWord (op : BitVec 4) (e f : BitVec 1) (imm : BitVec 8) :
    epField (packWord op e f imm) = if e.getLsbD 0 then .B else .A := by
  simp [epField, packWord, BitVec.getLsbD_of_ge]

/-- `ifZero` answers an instruction exactly when the must-be-zero bits are zero, and then only its own row. -/
theorem ifZero_eq_instr {w z : Word} {i j : Instr} : ifZero w z i = .instr j ↔ w &&& z = 0#16 ∧ i = j := by
  unfold ifZero
  split <;> simp [*]

end Sys2Proof
end

