-- ==== Sys2Proof/Laws/State.lean ====
section
/-! SUPPORT. One lemma for each field of State under each named update, so that no proof unfolds a record update. -/

namespace Sys2Proof.Machine

/-! ### `setEp` -/

@[simp] theorem State.setEp_de (s : State) (e : Ep) (v : Endpoint) : (s.setEp e v).de = s.de := by cases e <;> rfl
@[simp] theorem State.setEp_dirT0 (s : State) (e : Ep) (v : Endpoint) : (s.setEp e v).dirT0 = s.dirT0 := by cases e <;> rfl
@[simp] theorem State.setEp_now (s : State) (e : Ep) (v : Endpoint) : (s.setEp e v).now = s.now := by cases e <;> rfl
@[simp] theorem State.setEp_hbLast (s : State) (e : Ep) (v : Endpoint) : (s.setEp e v).hbLast = s.hbLast := by cases e <;> rfl
@[simp] theorem State.setEp_led (s : State) (e : Ep) (v : Endpoint) : (s.setEp e v).led = s.led := by cases e <;> rfl
@[simp] theorem State.setEp_upc (s : State) (e : Ep) (v : Endpoint) : (s.setEp e v).upc = s.upc := by cases e <;> rfl
@[simp] theorem State.setEp_ph (s : State) (e : Ep) (v : Endpoint) : (s.setEp e v).ph = s.ph := by cases e <;> rfl
@[simp] theorem State.setEp_txPend (s : State) (e : Ep) (v : Endpoint) : (s.setEp e v).txPend = s.txPend := by cases e <;> rfl
@[simp] theorem State.setEp_txres (s : State) (e : Ep) (v : Endpoint) : (s.setEp e v).txres = s.txres := by cases e <;> rfl
@[simp] theorem State.setEp_initPend (s : State) (e : Ep) (v : Endpoint) : (s.setEp e v).initPend = s.initPend := by cases e <;> rfl
@[simp] theorem State.setEp_initOk (s : State) (e : Ep) (v : Endpoint) : (s.setEp e v).initOk = s.initOk := by cases e <;> rfl
@[simp] theorem State.setEp_fatal (s : State) (e : Ep) (v : Endpoint) : (s.setEp e v).fatal = s.fatal := by cases e <;> rfl
@[simp] theorem State.setEp_txT0 (s : State) (e : Ep) (v : Endpoint) : (s.setEp e v).txT0 = s.txT0 := by cases e <;> rfl
@[simp] theorem State.setEp_trace (s : State) (e : Ep) (v : Endpoint) : (s.setEp e v).trace = s.trace := by cases e <;> rfl
@[simp] theorem State.setEp_faults (s : State) (e : Ep) (v : Endpoint) : (s.setEp e v).faults = s.faults := by cases e <;> rfl
@[simp] theorem State.setEp_refusedMark (s : State) (e : Ep) (v : Endpoint) : (s.setEp e v).refusedMark = s.refusedMark := by cases e <;> rfl
@[simp] theorem State.setEp_rom (s : State) (e : Ep) (v : Endpoint) : (s.setEp e v).rom = s.rom := by cases e <;> rfl
@[simp] theorem State.setEp_params (s : State) (e : Ep) (v : Endpoint) : (s.setEp e v).params = s.params := by cases e <;> rfl
@[simp] theorem State.setEp_schedule (s : State) (e : Ep) (v : Endpoint) : (s.setEp e v).schedule = s.schedule := by cases e <;> rfl
@[simp] theorem State.setEp_moveNo (s : State) (e : Ep) (v : Endpoint) : (s.setEp e v).moveNo = s.moveNo := by cases e <;> rfl
@[simp] theorem State.setEp_ep_same (s : State) (e : Ep) (v : Endpoint) : (s.setEp e v).ep e = v := by cases e <;> rfl
@[simp] theorem State.setEp_ep_other (s : State) (e : Ep) (v : Endpoint) : (s.setEp e v).ep (otherEp e) = s.ep (otherEp e) := by cases e <;> rfl

/-! ### `jumpTo` -/

@[simp] theorem State.jumpTo_de (s : State) (a : Addr) : (s.jumpTo a).de = s.de := rfl
@[simp] theorem State.jumpTo_dirT0 (s : State) (a : Addr) : (s.jumpTo a).dirT0 = s.dirT0 := rfl
@[simp] theorem State.jumpTo_epA (s : State) (a : Addr) : (s.jumpTo a).epA = s.epA := rfl
@[simp] theorem State.jumpTo_epB (s : State) (a : Addr) : (s.jumpTo a).epB = s.epB := rfl
@[simp] theorem State.jumpTo_now (s : State) (a : Addr) : (s.jumpTo a).now = s.now := rfl
@[simp] theorem State.jumpTo_hbLast (s : State) (a : Addr) : (s.jumpTo a).hbLast = s.hbLast := rfl
@[simp] theorem State.jumpTo_led (s : State) (a : Addr) : (s.jumpTo a).led = s.led := rfl
@[simp] theorem State.jumpTo_upc (s : State) (a : Addr) : (s.jumpTo a).upc = a := rfl
@[simp] theorem State.jumpTo_ph (s : State) (a : Addr) : (s.jumpTo a).ph = 0 := rfl
@[simp] theorem State.jumpTo_txPend (s : State) (a : Addr) : (s.jumpTo a).txPend = s.txPend := rfl
@[simp] theorem State.jumpTo_txres (s : State) (a : Addr) : (s.jumpTo a).txres = s.txres := rfl
@[simp] theorem State.jumpTo_initPend (s : State) (a : Addr) : (s.jumpTo a).initPend = s.initPend := rfl
@[simp] theorem State.jumpTo_initOk (s : State) (a : Addr) : (s.jumpTo a).initOk = s.initOk := rfl
@[simp] theorem State.jumpTo_fatal (s : State) (a : Addr) : (s.jumpTo a).fatal = s.fatal := rfl
@[simp] theorem State.jumpTo_txT0 (s : State) (a : Addr) : (s.jumpTo a).txT0 = s.txT0 := rfl
@[simp] theorem State.jumpTo_trace (s : State) (a : Addr) : (s.jumpTo a).trace = s.trace := rfl
@[simp] theorem State.jumpTo_faults (s : State) (a : Addr) : (s.jumpTo a).faults = s.faults := rfl
@[simp] theorem State.jumpTo_refusedMark (s : State) (a : Addr) : (s.jumpTo a).refusedMark = s.refusedMark := rfl
@[simp] theorem State.jumpTo_rom (s : State) (a : Addr) : (s.jumpTo a).rom = s.rom := rfl
@[simp] theorem State.jumpTo_params (s : State) (a : Addr) : (s.jumpTo a).params = s.params := rfl
@[simp] theorem State.jumpTo_schedule (s : State) (a : Addr) : (s.jumpTo a).schedule = s.schedule := rfl
@[simp] theorem State.jumpTo_moveNo (s : State) (a : Addr) : (s.jumpTo a).moveNo = s.moveNo := rfl
@[simp] theorem State.jumpTo_ep (s : State) (a : Addr) (x : Ep) : (s.jumpTo a).ep x = s.ep x := by cases x <;> rfl

/-! ### `advance` -/

@[simp] theorem State.advance_de (s : State) : (s.advance).de = s.de := rfl
@[simp] theorem State.advance_dirT0 (s : State) : (s.advance).dirT0 = s.dirT0 := rfl
@[simp] theorem State.advance_epA (s : State) : (s.advance).epA = s.epA := rfl
@[simp] theorem State.advance_epB (s : State) : (s.advance).epB = s.epB := rfl
@[simp] theorem State.advance_now (s : State) : (s.advance).now = s.now := rfl
@[simp] theorem State.advance_hbLast (s : State) : (s.advance).hbLast = s.hbLast := rfl
@[simp] theorem State.advance_led (s : State) : (s.advance).led = s.led := rfl
@[simp] theorem State.advance_upc (s : State) : (s.advance).upc = s.upc + 1 := rfl
@[simp] theorem State.advance_ph (s : State) : (s.advance).ph = 0 := rfl
@[simp] theorem State.advance_txPend (s : State) : (s.advance).txPend = s.txPend := rfl
@[simp] theorem State.advance_txres (s : State) : (s.advance).txres = s.txres := rfl
@[simp] theorem State.advance_initPend (s : State) : (s.advance).initPend = s.initPend := rfl
@[simp] theorem State.advance_initOk (s : State) : (s.advance).initOk = s.initOk := rfl
@[simp] theorem State.advance_fatal (s : State) : (s.advance).fatal = s.fatal := rfl
@[simp] theorem State.advance_txT0 (s : State) : (s.advance).txT0 = s.txT0 := rfl
@[simp] theorem State.advance_trace (s : State) : (s.advance).trace = s.trace := rfl
@[simp] theorem State.advance_faults (s : State) : (s.advance).faults = s.faults := rfl
@[simp] theorem State.advance_refusedMark (s : State) : (s.advance).refusedMark = s.refusedMark := rfl
@[simp] theorem State.advance_rom (s : State) : (s.advance).rom = s.rom := rfl
@[simp] theorem State.advance_params (s : State) : (s.advance).params = s.params := rfl
@[simp] theorem State.advance_schedule (s : State) : (s.advance).schedule = s.schedule := rfl
@[simp] theorem State.advance_moveNo (s : State) : (s.advance).moveNo = s.moveNo := rfl
@[simp] theorem State.advance_ep (s : State) (x : Ep) : (s.advance).ep x = s.ep x := by cases x <;> rfl

/-! ### `setPh` -/

@[simp] theorem State.setPh_de (s : State) (p : Phase) : (s.setPh p).de = s.de := rfl
@[simp] theorem State.setPh_dirT0 (s : State) (p : Phase) : (s.setPh p).dirT0 = s.dirT0 := rfl
@[simp] theorem State.setPh_epA (s : State) (p : Phase) : (s.setPh p).epA = s.epA := rfl
@[simp] theorem State.setPh_epB (s : State) (p : Phase) : (s.setPh p).epB = s.epB := rfl
@[simp] theorem State.setPh_now (s : State) (p : Phase) : (s.setPh p).now = s.now := rfl
@[simp] theorem State.setPh_hbLast (s : State) (p : Phase) : (s.setPh p).hbLast = s.hbLast := rfl
@[simp] theorem State.setPh_led (s : State) (p : Phase) : (s.setPh p).led = s.led := rfl
@[simp] theorem State.setPh_upc (s : State) (p : Phase) : (s.setPh p).upc = s.upc := rfl
@[simp] theorem State.setPh_ph (s : State) (p : Phase) : (s.setPh p).ph = p := rfl
@[simp] theorem State.setPh_txPend (s : State) (p : Phase) : (s.setPh p).txPend = s.txPend := rfl
@[simp] theorem State.setPh_txres (s : State) (p : Phase) : (s.setPh p).txres = s.txres := rfl
@[simp] theorem State.setPh_initPend (s : State) (p : Phase) : (s.setPh p).initPend = s.initPend := rfl
@[simp] theorem State.setPh_initOk (s : State) (p : Phase) : (s.setPh p).initOk = s.initOk := rfl
@[simp] theorem State.setPh_fatal (s : State) (p : Phase) : (s.setPh p).fatal = s.fatal := rfl
@[simp] theorem State.setPh_txT0 (s : State) (p : Phase) : (s.setPh p).txT0 = s.txT0 := rfl
@[simp] theorem State.setPh_trace (s : State) (p : Phase) : (s.setPh p).trace = s.trace := rfl
@[simp] theorem State.setPh_faults (s : State) (p : Phase) : (s.setPh p).faults = s.faults := rfl
@[simp] theorem State.setPh_refusedMark (s : State) (p : Phase) : (s.setPh p).refusedMark = s.refusedMark := rfl
@[simp] theorem State.setPh_rom (s : State) (p : Phase) : (s.setPh p).rom = s.rom := rfl
@[simp] theorem State.setPh_params (s : State) (p : Phase) : (s.setPh p).params = s.params := rfl
@[simp] theorem State.setPh_schedule (s : State) (p : Phase) : (s.setPh p).schedule = s.schedule := rfl
@[simp] theorem State.setPh_moveNo (s : State) (p : Phase) : (s.setPh p).moveNo = s.moveNo := rfl
@[simp] theorem State.setPh_ep (s : State) (p : Phase) (x : Ep) : (s.setPh p).ep x = s.ep x := by cases x <;> rfl

/-! ### `emit` -/

@[simp] theorem State.emit_de (s : State) (o : Obs) : (s.emit o).de = s.de := rfl
@[simp] theorem State.emit_dirT0 (s : State) (o : Obs) : (s.emit o).dirT0 = s.dirT0 := rfl
@[simp] theorem State.emit_epA (s : State) (o : Obs) : (s.emit o).epA = s.epA := rfl
@[simp] theorem State.emit_epB (s : State) (o : Obs) : (s.emit o).epB = s.epB := rfl
@[simp] theorem State.emit_now (s : State) (o : Obs) : (s.emit o).now = s.now := rfl
@[simp] theorem State.emit_hbLast (s : State) (o : Obs) : (s.emit o).hbLast = s.hbLast := rfl
@[simp] theorem State.emit_led (s : State) (o : Obs) : (s.emit o).led = s.led := rfl
@[simp] theorem State.emit_upc (s : State) (o : Obs) : (s.emit o).upc = s.upc := rfl
@[simp] theorem State.emit_ph (s : State) (o : Obs) : (s.emit o).ph = s.ph := rfl
@[simp] theorem State.emit_txPend (s : State) (o : Obs) : (s.emit o).txPend = s.txPend := rfl
@[simp] theorem State.emit_txres (s : State) (o : Obs) : (s.emit o).txres = s.txres := rfl
@[simp] theorem State.emit_initPend (s : State) (o : Obs) : (s.emit o).initPend = s.initPend := rfl
@[simp] theorem State.emit_initOk (s : State) (o : Obs) : (s.emit o).initOk = s.initOk := rfl
@[simp] theorem State.emit_fatal (s : State) (o : Obs) : (s.emit o).fatal = s.fatal := rfl
@[simp] theorem State.emit_txT0 (s : State) (o : Obs) : (s.emit o).txT0 = s.txT0 := rfl
@[simp] theorem State.emit_trace (s : State) (o : Obs) : (s.emit o).trace = s.trace ++ [o] := rfl
@[simp] theorem State.emit_faults (s : State) (o : Obs) : (s.emit o).faults = s.faults := rfl
@[simp] theorem State.emit_refusedMark (s : State) (o : Obs) : (s.emit o).refusedMark = s.refusedMark := rfl
@[simp] theorem State.emit_rom (s : State) (o : Obs) : (s.emit o).rom = s.rom := rfl
@[simp] theorem State.emit_params (s : State) (o : Obs) : (s.emit o).params = s.params := rfl
@[simp] theorem State.emit_schedule (s : State) (o : Obs) : (s.emit o).schedule = s.schedule := rfl
@[simp] theorem State.emit_moveNo (s : State) (o : Obs) : (s.emit o).moveNo = s.moveNo := rfl
@[simp] theorem State.emit_ep (s : State) (o : Obs) (x : Ep) : (s.emit o).ep x = s.ep x := by cases x <;> rfl

/-! ### `toggleLed` -/

@[simp] theorem State.toggleLed_de (s : State) : (s.toggleLed).de = s.de := rfl
@[simp] theorem State.toggleLed_dirT0 (s : State) : (s.toggleLed).dirT0 = s.dirT0 := rfl
@[simp] theorem State.toggleLed_epA (s : State) : (s.toggleLed).epA = s.epA := rfl
@[simp] theorem State.toggleLed_epB (s : State) : (s.toggleLed).epB = s.epB := rfl
@[simp] theorem State.toggleLed_now (s : State) : (s.toggleLed).now = s.now := rfl
@[simp] theorem State.toggleLed_hbLast (s : State) : (s.toggleLed).hbLast = s.hbLast := rfl
@[simp] theorem State.toggleLed_led (s : State) : (s.toggleLed).led = !s.led := rfl
@[simp] theorem State.toggleLed_upc (s : State) : (s.toggleLed).upc = s.upc := rfl
@[simp] theorem State.toggleLed_ph (s : State) : (s.toggleLed).ph = s.ph := rfl
@[simp] theorem State.toggleLed_txPend (s : State) : (s.toggleLed).txPend = s.txPend := rfl
@[simp] theorem State.toggleLed_txres (s : State) : (s.toggleLed).txres = s.txres := rfl
@[simp] theorem State.toggleLed_initPend (s : State) : (s.toggleLed).initPend = s.initPend := rfl
@[simp] theorem State.toggleLed_initOk (s : State) : (s.toggleLed).initOk = s.initOk := rfl
@[simp] theorem State.toggleLed_fatal (s : State) : (s.toggleLed).fatal = s.fatal := rfl
@[simp] theorem State.toggleLed_txT0 (s : State) : (s.toggleLed).txT0 = s.txT0 := rfl
@[simp] theorem State.toggleLed_trace (s : State) : (s.toggleLed).trace = s.trace ++ [.led (!s.led)] := rfl
@[simp] theorem State.toggleLed_faults (s : State) : (s.toggleLed).faults = s.faults := rfl
@[simp] theorem State.toggleLed_refusedMark (s : State) : (s.toggleLed).refusedMark = s.refusedMark := rfl
@[simp] theorem State.toggleLed_rom (s : State) : (s.toggleLed).rom = s.rom := rfl
@[simp] theorem State.toggleLed_params (s : State) : (s.toggleLed).params = s.params := rfl
@[simp] theorem State.toggleLed_schedule (s : State) : (s.toggleLed).schedule = s.schedule := rfl
@[simp] theorem State.toggleLed_moveNo (s : State) : (s.toggleLed).moveNo = s.moveNo := rfl
@[simp] theorem State.toggleLed_ep (s : State) (x : Ep) : (s.toggleLed).ep x = s.ep x := by cases x <;> rfl

/-! ### `tickOnce` -/

@[simp] theorem State.tickOnce_de (s : State) : (s.tickOnce).de = s.de := rfl
@[simp] theorem State.tickOnce_dirT0 (s : State) : (s.tickOnce).dirT0 = s.dirT0 := rfl
@[simp] theorem State.tickOnce_epA (s : State) : (s.tickOnce).epA = s.epA := rfl
@[simp] theorem State.tickOnce_epB (s : State) : (s.tickOnce).epB = s.epB := rfl
@[simp] theorem State.tickOnce_now (s : State) : (s.tickOnce).now = s.now + 1 := rfl
@[simp] theorem State.tickOnce_hbLast (s : State) : (s.tickOnce).hbLast = s.hbLast := rfl
@[simp] theorem State.tickOnce_led (s : State) : (s.tickOnce).led = s.led := rfl
@[simp] theorem State.tickOnce_upc (s : State) : (s.tickOnce).upc = s.upc := rfl
@[simp] theorem State.tickOnce_ph (s : State) : (s.tickOnce).ph = s.ph := rfl
@[simp] theorem State.tickOnce_txPend (s : State) : (s.tickOnce).txPend = s.txPend := rfl
@[simp] theorem State.tickOnce_txres (s : State) : (s.tickOnce).txres = s.txres := rfl
@[simp] theorem State.tickOnce_initPend (s : State) : (s.tickOnce).initPend = s.initPend := rfl
@[simp] theorem State.tickOnce_initOk (s : State) : (s.tickOnce).initOk = s.initOk := rfl
@[simp] theorem State.tickOnce_fatal (s : State) : (s.tickOnce).fatal = s.fatal := rfl
@[simp] theorem State.tickOnce_txT0 (s : State) : (s.tickOnce).txT0 = s.txT0 := rfl
@[simp] theorem State.tickOnce_trace (s : State) : (s.tickOnce).trace = s.trace := rfl
@[simp] theorem State.tickOnce_faults (s : State) : (s.tickOnce).faults = s.faults := rfl
@[simp] theorem State.tickOnce_refusedMark (s : State) : (s.tickOnce).refusedMark = s.refusedMark := rfl
@[simp] theorem State.tickOnce_rom (s : State) : (s.tickOnce).rom = s.rom := rfl
@[simp] theorem State.tickOnce_params (s : State) : (s.tickOnce).params = s.params := rfl
@[simp] theorem State.tickOnce_schedule (s : State) : (s.tickOnce).schedule = s.schedule := rfl
@[simp] theorem State.tickOnce_moveNo (s : State) : (s.tickOnce).moveNo = s.moveNo := rfl
@[simp] theorem State.tickOnce_ep (s : State) (x : Ep) : (s.tickOnce).ep x = s.ep x := by cases x <;> rfl

/-! ### `writeDir` -/

@[simp] theorem State.writeDir_de (s : State) (d : Dir) : (s.writeDir d).de = d := rfl
@[simp] theorem State.writeDir_dirT0 (s : State) (d : Dir) : (s.writeDir d).dirT0 = s.now := rfl
@[simp] theorem State.writeDir_epA (s : State) (d : Dir) : (s.writeDir d).epA = s.epA := rfl
@[simp] theorem State.writeDir_epB (s : State) (d : Dir) : (s.writeDir d).epB = s.epB := rfl
@[simp] theorem State.writeDir_now (s : State) (d : Dir) : (s.writeDir d).now = s.now := rfl
@[simp] theorem State.writeDir_hbLast (s : State) (d : Dir) : (s.writeDir d).hbLast = s.hbLast := rfl
@[simp] theorem State.writeDir_led (s : State) (d : Dir) : (s.writeDir d).led = s.led := rfl
@[simp] theorem State.writeDir_upc (s : State) (d : Dir) : (s.writeDir d).upc = s.upc := rfl
@[simp] theorem State.writeDir_ph (s : State) (d : Dir) : (s.writeDir d).ph = s.ph := rfl
@[simp] theorem State.writeDir_txPend (s : State) (d : Dir) : (s.writeDir d).txPend = s.txPend := rfl
@[simp] theorem State.writeDir_txres (s : State) (d : Dir) : (s.writeDir d).txres = s.txres := rfl
@[simp] theorem State.writeDir_initPend (s : State) (d : Dir) : (s.writeDir d).initPend = s.initPend := rfl
@[simp] theorem State.writeDir_initOk (s : State) (d : Dir) : (s.writeDir d).initOk = s.initOk := rfl
@[simp] theorem State.writeDir_fatal (s : State) (d : Dir) : (s.writeDir d).fatal = s.fatal := rfl
@[simp] theorem State.writeDir_txT0 (s : State) (d : Dir) : (s.writeDir d).txT0 = s.txT0 := rfl
@[simp] theorem State.writeDir_trace (s : State) (d : Dir) : (s.writeDir d).trace = s.trace ++ [.de d] := rfl
@[simp] theorem State.writeDir_faults (s : State) (d : Dir) : (s.writeDir d).faults = s.faults := rfl
@[simp] theorem State.writeDir_refusedMark (s : State) (d : Dir) : (s.writeDir d).refusedMark = s.refusedMark := rfl
@[simp] theorem State.writeDir_rom (s : State) (d : Dir) : (s.writeDir d).rom = s.rom := rfl
@[simp] theorem State.writeDir_params (s : State) (d : Dir) : (s.writeDir d).params = s.params := rfl
@[simp] theorem State.writeDir_schedule (s : State) (d : Dir) : (s.writeDir d).schedule = s.schedule := rfl
@[simp] theorem State.writeDir_moveNo (s : State) (d : Dir) : (s.writeDir d).moveNo = s.moveNo := rfl
@[simp] theorem State.writeDir_ep (s : State) (d : Dir) (x : Ep) : (s.writeDir d).ep x = s.ep x := by cases x <;> rfl

/-! ### `blink` -/

@[simp] theorem State.blink_de (s : State) : (s.blink).de = s.de := rfl
@[simp] theorem State.blink_dirT0 (s : State) : (s.blink).dirT0 = s.dirT0 := rfl
@[simp] theorem State.blink_epA (s : State) : (s.blink).epA = s.epA := rfl
@[simp] theorem State.blink_epB (s : State) : (s.blink).epB = s.epB := rfl
@[simp] theorem State.blink_now (s : State) : (s.blink).now = s.now := rfl
@[simp] theorem State.blink_hbLast (s : State) : (s.blink).hbLast = s.now := rfl
@[simp] theorem State.blink_led (s : State) : (s.blink).led = !s.led := rfl
@[simp] theorem State.blink_upc (s : State) : (s.blink).upc = s.upc := rfl
@[simp] theorem State.blink_ph (s : State) : (s.blink).ph = s.ph := rfl
@[simp] theorem State.blink_txPend (s : State) : (s.blink).txPend = s.txPend := rfl
@[simp] theorem State.blink_txres (s : State) : (s.blink).txres = s.txres := rfl
@[simp] theorem State.blink_initPend (s : State) : (s.blink).initPend = s.initPend := rfl
@[simp] theorem State.blink_initOk (s : State) : (s.blink).initOk = s.initOk := rfl
@[simp] theorem State.blink_fatal (s : State) : (s.blink).fatal = s.fatal := rfl
@[simp] theorem State.blink_txT0 (s : State) : (s.blink).txT0 = s.txT0 := rfl
@[simp] theorem State.blink_trace (s : State) : (s.blink).trace = s.trace ++ [.led (!s.led)] := rfl
@[simp] theorem State.blink_faults (s : State) : (s.blink).faults = s.faults := rfl
@[simp] theorem State.blink_refusedMark (s : State) : (s.blink).refusedMark = s.refusedMark := rfl
@[simp] theorem State.blink_rom (s : State) : (s.blink).rom = s.rom := rfl
@[simp] theorem State.blink_params (s : State) : (s.blink).params = s.params := rfl
@[simp] theorem State.blink_schedule (s : State) : (s.blink).schedule = s.schedule := rfl
@[simp] theorem State.blink_moveNo (s : State) : (s.blink).moveNo = s.moveNo := rfl
@[simp] theorem State.blink_ep (s : State) (x : Ep) : (s.blink).ep x = s.ep x := by cases x <;> rfl

/-! ### `requestInit` -/

@[simp] theorem State.requestInit_de (s : State) : (s.requestInit).de = s.de := rfl
@[simp] theorem State.requestInit_dirT0 (s : State) : (s.requestInit).dirT0 = s.dirT0 := rfl
@[simp] theorem State.requestInit_epA (s : State) : (s.requestInit).epA = s.epA := rfl
@[simp] theorem State.requestInit_epB (s : State) : (s.requestInit).epB = s.epB := rfl
@[simp] theorem State.requestInit_now (s : State) : (s.requestInit).now = s.now := rfl
@[simp] theorem State.requestInit_hbLast (s : State) : (s.requestInit).hbLast = s.hbLast := rfl
@[simp] theorem State.requestInit_led (s : State) : (s.requestInit).led = s.led := rfl
@[simp] theorem State.requestInit_upc (s : State) : (s.requestInit).upc = s.upc := rfl
@[simp] theorem State.requestInit_ph (s : State) : (s.requestInit).ph = s.ph := rfl
@[simp] theorem State.requestInit_txPend (s : State) : (s.requestInit).txPend = s.txPend := rfl
@[simp] theorem State.requestInit_txres (s : State) : (s.requestInit).txres = s.txres := rfl
@[simp] theorem State.requestInit_initPend (s : State) : (s.requestInit).initPend = true := rfl
@[simp] theorem State.requestInit_initOk (s : State) : (s.requestInit).initOk = s.initOk := rfl
@[simp] theorem State.requestInit_fatal (s : State) : (s.requestInit).fatal = s.fatal := rfl
@[simp] theorem State.requestInit_txT0 (s : State) : (s.requestInit).txT0 = s.txT0 := rfl
@[simp] theorem State.requestInit_trace (s : State) : (s.requestInit).trace = s.trace ++ [.initReq] := rfl
@[simp] theorem State.requestInit_faults (s : State) : (s.requestInit).faults = s.faults := rfl
@[simp] theorem State.requestInit_refusedMark (s : State) : (s.requestInit).refusedMark = s.refusedMark := rfl
@[simp] theorem State.requestInit_rom (s : State) : (s.requestInit).rom = s.rom := rfl
@[simp] theorem State.requestInit_params (s : State) : (s.requestInit).params = s.params := rfl
@[simp] theorem State.requestInit_schedule (s : State) : (s.requestInit).schedule = s.schedule := rfl
@[simp] theorem State.requestInit_moveNo (s : State) : (s.requestInit).moveNo = s.moveNo := rfl
@[simp] theorem State.requestInit_ep (s : State) (x : Ep) : (s.requestInit).ep x = s.ep x := by cases x <;> rfl

/-! ### `answerInit` -/

@[simp] theorem State.answerInit_de (s : State) (r : Bool) : (s.answerInit r).de = s.de := rfl
@[simp] theorem State.answerInit_dirT0 (s : State) (r : Bool) : (s.answerInit r).dirT0 = s.dirT0 := rfl
@[simp] theorem State.answerInit_epA (s : State) (r : Bool) : (s.answerInit r).epA = s.epA := rfl
@[simp] theorem State.answerInit_epB (s : State) (r : Bool) : (s.answerInit r).epB = s.epB := rfl
@[simp] theorem State.answerInit_now (s : State) (r : Bool) : (s.answerInit r).now = s.now := rfl
@[simp] theorem State.answerInit_hbLast (s : State) (r : Bool) : (s.answerInit r).hbLast = s.hbLast := rfl
@[simp] theorem State.answerInit_led (s : State) (r : Bool) : (s.answerInit r).led = s.led := rfl
@[simp] theorem State.answerInit_upc (s : State) (r : Bool) : (s.answerInit r).upc = s.upc := rfl
@[simp] theorem State.answerInit_ph (s : State) (r : Bool) : (s.answerInit r).ph = s.ph := rfl
@[simp] theorem State.answerInit_txPend (s : State) (r : Bool) : (s.answerInit r).txPend = s.txPend := rfl
@[simp] theorem State.answerInit_txres (s : State) (r : Bool) : (s.answerInit r).txres = s.txres := rfl
@[simp] theorem State.answerInit_initPend (s : State) (r : Bool) : (s.answerInit r).initPend = false := rfl
@[simp] theorem State.answerInit_initOk (s : State) (r : Bool) : (s.answerInit r).initOk = r := rfl
@[simp] theorem State.answerInit_fatal (s : State) (r : Bool) : (s.answerInit r).fatal = s.fatal := rfl
@[simp] theorem State.answerInit_txT0 (s : State) (r : Bool) : (s.answerInit r).txT0 = s.txT0 := rfl
@[simp] theorem State.answerInit_trace (s : State) (r : Bool) : (s.answerInit r).trace = s.trace ++ [.initRes r] := rfl
@[simp] theorem State.answerInit_faults (s : State) (r : Bool) : (s.answerInit r).faults = s.faults := rfl
@[simp] theorem State.answerInit_refusedMark (s : State) (r : Bool) : (s.answerInit r).refusedMark = s.refusedMark := rfl
@[simp] theorem State.answerInit_rom (s : State) (r : Bool) : (s.answerInit r).rom = s.rom := rfl
@[simp] theorem State.answerInit_params (s : State) (r : Bool) : (s.answerInit r).params = s.params := rfl
@[simp] theorem State.answerInit_schedule (s : State) (r : Bool) : (s.answerInit r).schedule = s.schedule := rfl
@[simp] theorem State.answerInit_moveNo (s : State) (r : Bool) : (s.answerInit r).moveNo = s.moveNo := rfl
@[simp] theorem State.answerInit_ep (s : State) (r : Bool) (x : Ep) : (s.answerInit r).ep x = s.ep x := by cases x <;> rfl

/-! ### `requestTx` -/

@[simp] theorem State.requestTx_de (s : State) (o : Ep) : (s.requestTx o).de = s.de := rfl
@[simp] theorem State.requestTx_dirT0 (s : State) (o : Ep) : (s.requestTx o).dirT0 = s.dirT0 := rfl
@[simp] theorem State.requestTx_epA (s : State) (o : Ep) : (s.requestTx o).epA = s.epA := rfl
@[simp] theorem State.requestTx_epB (s : State) (o : Ep) : (s.requestTx o).epB = s.epB := rfl
@[simp] theorem State.requestTx_now (s : State) (o : Ep) : (s.requestTx o).now = s.now := rfl
@[simp] theorem State.requestTx_hbLast (s : State) (o : Ep) : (s.requestTx o).hbLast = s.hbLast := rfl
@[simp] theorem State.requestTx_led (s : State) (o : Ep) : (s.requestTx o).led = s.led := rfl
@[simp] theorem State.requestTx_upc (s : State) (o : Ep) : (s.requestTx o).upc = s.upc := rfl
@[simp] theorem State.requestTx_ph (s : State) (o : Ep) : (s.requestTx o).ph = s.ph := rfl
@[simp] theorem State.requestTx_txPend (s : State) (o : Ep) : (s.requestTx o).txPend = true := rfl
@[simp] theorem State.requestTx_txres (s : State) (o : Ep) : (s.requestTx o).txres = s.txres := rfl
@[simp] theorem State.requestTx_initPend (s : State) (o : Ep) : (s.requestTx o).initPend = s.initPend := rfl
@[simp] theorem State.requestTx_initOk (s : State) (o : Ep) : (s.requestTx o).initOk = s.initOk := rfl
@[simp] theorem State.requestTx_fatal (s : State) (o : Ep) : (s.requestTx o).fatal = s.fatal := rfl
@[simp] theorem State.requestTx_txT0 (s : State) (o : Ep) : (s.requestTx o).txT0 = s.now := rfl
@[simp] theorem State.requestTx_trace (s : State) (o : Ep) : (s.requestTx o).trace = s.trace ++ [.txReq o (s.txSlot o)] := rfl
@[simp] theorem State.requestTx_faults (s : State) (o : Ep) : (s.requestTx o).faults = s.faults := rfl
@[simp] theorem State.requestTx_refusedMark (s : State) (o : Ep) : (s.requestTx o).refusedMark = s.refusedMark := rfl
@[simp] theorem State.requestTx_rom (s : State) (o : Ep) : (s.requestTx o).rom = s.rom := rfl
@[simp] theorem State.requestTx_params (s : State) (o : Ep) : (s.requestTx o).params = s.params := rfl
@[simp] theorem State.requestTx_schedule (s : State) (o : Ep) : (s.requestTx o).schedule = s.schedule := rfl
@[simp] theorem State.requestTx_moveNo (s : State) (o : Ep) : (s.requestTx o).moveNo = s.moveNo := rfl
@[simp] theorem State.requestTx_ep (s : State) (o : Ep) (x : Ep) : (s.requestTx o).ep x = s.ep x := by cases x <;> rfl

/-! ### `answerTx` -/

@[simp] theorem State.answerTx_de (s : State) (r : Bool) : (s.answerTx r).de = s.de := rfl
@[simp] theorem State.answerTx_dirT0 (s : State) (r : Bool) : (s.answerTx r).dirT0 = s.dirT0 := rfl
@[simp] theorem State.answerTx_epA (s : State) (r : Bool) : (s.answerTx r).epA = s.epA := rfl
@[simp] theorem State.answerTx_epB (s : State) (r : Bool) : (s.answerTx r).epB = s.epB := rfl
@[simp] theorem State.answerTx_now (s : State) (r : Bool) : (s.answerTx r).now = s.now := rfl
@[simp] theorem State.answerTx_hbLast (s : State) (r : Bool) : (s.answerTx r).hbLast = s.hbLast := rfl
@[simp] theorem State.answerTx_led (s : State) (r : Bool) : (s.answerTx r).led = s.led := rfl
@[simp] theorem State.answerTx_upc (s : State) (r : Bool) : (s.answerTx r).upc = s.upc := rfl
@[simp] theorem State.answerTx_ph (s : State) (r : Bool) : (s.answerTx r).ph = s.ph := rfl
@[simp] theorem State.answerTx_txPend (s : State) (r : Bool) : (s.answerTx r).txPend = false := rfl
@[simp] theorem State.answerTx_txres (s : State) (r : Bool) : (s.answerTx r).txres = r := rfl
@[simp] theorem State.answerTx_initPend (s : State) (r : Bool) : (s.answerTx r).initPend = s.initPend := rfl
@[simp] theorem State.answerTx_initOk (s : State) (r : Bool) : (s.answerTx r).initOk = s.initOk := rfl
@[simp] theorem State.answerTx_fatal (s : State) (r : Bool) : (s.answerTx r).fatal = s.fatal := rfl
@[simp] theorem State.answerTx_txT0 (s : State) (r : Bool) : (s.answerTx r).txT0 = s.txT0 := rfl
@[simp] theorem State.answerTx_trace (s : State) (r : Bool) : (s.answerTx r).trace = s.trace ++ [.txRes r] := rfl
@[simp] theorem State.answerTx_faults (s : State) (r : Bool) : (s.answerTx r).faults = s.faults := rfl
@[simp] theorem State.answerTx_refusedMark (s : State) (r : Bool) : (s.answerTx r).refusedMark = s.refusedMark := rfl
@[simp] theorem State.answerTx_rom (s : State) (r : Bool) : (s.answerTx r).rom = s.rom := rfl
@[simp] theorem State.answerTx_params (s : State) (r : Bool) : (s.answerTx r).params = s.params := rfl
@[simp] theorem State.answerTx_schedule (s : State) (r : Bool) : (s.answerTx r).schedule = s.schedule := rfl
@[simp] theorem State.answerTx_moveNo (s : State) (r : Bool) : (s.answerTx r).moveNo = s.moveNo := rfl
@[simp] theorem State.answerTx_ep (s : State) (r : Bool) (x : Ep) : (s.answerTx r).ep x = s.ep x := by cases x <;> rfl

/-! ### `clearFlag` -/

@[simp] theorem State.clearFlag_de (s : State) (e : Ep) : (s.clearFlag e).de = s.de := by cases e <;> rfl
@[simp] theorem State.clearFlag_dirT0 (s : State) (e : Ep) : (s.clearFlag e).dirT0 = s.dirT0 := by cases e <;> rfl
@[simp] theorem State.clearFlag_now (s : State) (e : Ep) : (s.clearFlag e).now = s.now := by cases e <;> rfl
@[simp] theorem State.clearFlag_hbLast (s : State) (e : Ep) : (s.clearFlag e).hbLast = s.hbLast := by cases e <;> rfl
@[simp] theorem State.clearFlag_led (s : State) (e : Ep) : (s.clearFlag e).led = s.led := by cases e <;> rfl
@[simp] theorem State.clearFlag_upc (s : State) (e : Ep) : (s.clearFlag e).upc = s.upc := by cases e <;> rfl
@[simp] theorem State.clearFlag_ph (s : State) (e : Ep) : (s.clearFlag e).ph = s.ph := by cases e <;> rfl
@[simp] theorem State.clearFlag_txPend (s : State) (e : Ep) : (s.clearFlag e).txPend = s.txPend := by cases e <;> rfl
@[simp] theorem State.clearFlag_txres (s : State) (e : Ep) : (s.clearFlag e).txres = s.txres := by cases e <;> rfl
@[simp] theorem State.clearFlag_initPend (s : State) (e : Ep) : (s.clearFlag e).initPend = s.initPend := by cases e <;> rfl
@[simp] theorem State.clearFlag_initOk (s : State) (e : Ep) : (s.clearFlag e).initOk = s.initOk := by cases e <;> rfl
@[simp] theorem State.clearFlag_fatal (s : State) (e : Ep) : (s.clearFlag e).fatal = s.fatal := by cases e <;> rfl
@[simp] theorem State.clearFlag_txT0 (s : State) (e : Ep) : (s.clearFlag e).txT0 = s.txT0 := by cases e <;> rfl
@[simp] theorem State.clearFlag_trace (s : State) (e : Ep) : (s.clearFlag e).trace = s.trace := by cases e <;> rfl
@[simp] theorem State.clearFlag_faults (s : State) (e : Ep) : (s.clearFlag e).faults = s.faults := by cases e <;> rfl
@[simp] theorem State.clearFlag_refusedMark (s : State) (e : Ep) : (s.clearFlag e).refusedMark = s.refusedMark := by cases e <;> rfl
@[simp] theorem State.clearFlag_rom (s : State) (e : Ep) : (s.clearFlag e).rom = s.rom := by cases e <;> rfl
@[simp] theorem State.clearFlag_params (s : State) (e : Ep) : (s.clearFlag e).params = s.params := by cases e <;> rfl
@[simp] theorem State.clearFlag_schedule (s : State) (e : Ep) : (s.clearFlag e).schedule = s.schedule := by cases e <;> rfl
@[simp] theorem State.clearFlag_moveNo (s : State) (e : Ep) : (s.clearFlag e).moveNo = s.moveNo := by cases e <;> rfl
@[simp] theorem State.clearFlag_ep_same (s : State) (e : Ep) : (s.clearFlag e).ep e = { s.ep e with flag := false } := by cases e <;> rfl
@[simp] theorem State.clearFlag_ep_other (s : State) (e : Ep) : (s.clearFlag e).ep (otherEp e) = s.ep (otherEp e) := by cases e <;> rfl

/-! ### `armEp` -/

@[simp] theorem State.armEp_de (s : State) (e : Ep) : (s.armEp e).de = s.de := by cases e <;> rfl
@[simp] theorem State.armEp_dirT0 (s : State) (e : Ep) : (s.armEp e).dirT0 = s.dirT0 := by cases e <;> rfl
@[simp] theorem State.armEp_now (s : State) (e : Ep) : (s.armEp e).now = s.now := by cases e <;> rfl
@[simp] theorem State.armEp_hbLast (s : State) (e : Ep) : (s.armEp e).hbLast = s.hbLast := by cases e <;> rfl
@[simp] theorem State.armEp_led (s : State) (e : Ep) : (s.armEp e).led = s.led := by cases e <;> rfl
@[simp] theorem State.armEp_upc (s : State) (e : Ep) : (s.armEp e).upc = s.upc := by cases e <;> rfl
@[simp] theorem State.armEp_ph (s : State) (e : Ep) : (s.armEp e).ph = s.ph := by cases e <;> rfl
@[simp] theorem State.armEp_txPend (s : State) (e : Ep) : (s.armEp e).txPend = s.txPend := by cases e <;> rfl
@[simp] theorem State.armEp_txres (s : State) (e : Ep) : (s.armEp e).txres = s.txres := by cases e <;> rfl
@[simp] theorem State.armEp_initPend (s : State) (e : Ep) : (s.armEp e).initPend = s.initPend := by cases e <;> rfl
@[simp] theorem State.armEp_initOk (s : State) (e : Ep) : (s.armEp e).initOk = s.initOk := by cases e <;> rfl
@[simp] theorem State.armEp_fatal (s : State) (e : Ep) : (s.armEp e).fatal = s.fatal := by cases e <;> rfl
@[simp] theorem State.armEp_txT0 (s : State) (e : Ep) : (s.armEp e).txT0 = s.txT0 := by cases e <;> rfl
@[simp] theorem State.armEp_trace (s : State) (e : Ep) : (s.armEp e).trace = s.trace ++ [.arm e] := by cases e <;> rfl
@[simp] theorem State.armEp_faults (s : State) (e : Ep) : (s.armEp e).faults = s.faults := by cases e <;> rfl
@[simp] theorem State.armEp_refusedMark (s : State) (e : Ep) : (s.armEp e).refusedMark = s.refusedMark := by cases e <;> rfl
@[simp] theorem State.armEp_rom (s : State) (e : Ep) : (s.armEp e).rom = s.rom := by cases e <;> rfl
@[simp] theorem State.armEp_params (s : State) (e : Ep) : (s.armEp e).params = s.params := by cases e <;> rfl
@[simp] theorem State.armEp_schedule (s : State) (e : Ep) : (s.armEp e).schedule = s.schedule := by cases e <;> rfl
@[simp] theorem State.armEp_moveNo (s : State) (e : Ep) : (s.armEp e).moveNo = s.moveNo := by cases e <;> rfl
@[simp] theorem State.armEp_ep_same (s : State) (e : Ep) : (s.armEp e).ep e = { s.ep e with armed := true } := by cases e <;> rfl
@[simp] theorem State.armEp_ep_other (s : State) (e : Ep) : (s.armEp e).ep (otherEp e) = s.ep (otherEp e) := by cases e <;> rfl

/-! ### `setTxSlot` -/

@[simp] theorem State.setTxSlot_de (s : State) (e : Ep) (b : Byte) : (s.setTxSlot e b).de = s.de := by cases e <;> rfl
@[simp] theorem State.setTxSlot_dirT0 (s : State) (e : Ep) (b : Byte) : (s.setTxSlot e b).dirT0 = s.dirT0 := by cases e <;> rfl
@[simp] theorem State.setTxSlot_now (s : State) (e : Ep) (b : Byte) : (s.setTxSlot e b).now = s.now := by cases e <;> rfl
@[simp] theorem State.setTxSlot_hbLast (s : State) (e : Ep) (b : Byte) : (s.setTxSlot e b).hbLast = s.hbLast := by cases e <;> rfl
@[simp] theorem State.setTxSlot_led (s : State) (e : Ep) (b : Byte) : (s.setTxSlot e b).led = s.led := by cases e <;> rfl
@[simp] theorem State.setTxSlot_upc (s : State) (e : Ep) (b : Byte) : (s.setTxSlot e b).upc = s.upc := by cases e <;> rfl
@[simp] theorem State.setTxSlot_ph (s : State) (e : Ep) (b : Byte) : (s.setTxSlot e b).ph = s.ph := by cases e <;> rfl
@[simp] theorem State.setTxSlot_txPend (s : State) (e : Ep) (b : Byte) : (s.setTxSlot e b).txPend = s.txPend := by cases e <;> rfl
@[simp] theorem State.setTxSlot_txres (s : State) (e : Ep) (b : Byte) : (s.setTxSlot e b).txres = s.txres := by cases e <;> rfl
@[simp] theorem State.setTxSlot_initPend (s : State) (e : Ep) (b : Byte) : (s.setTxSlot e b).initPend = s.initPend := by cases e <;> rfl
@[simp] theorem State.setTxSlot_initOk (s : State) (e : Ep) (b : Byte) : (s.setTxSlot e b).initOk = s.initOk := by cases e <;> rfl
@[simp] theorem State.setTxSlot_fatal (s : State) (e : Ep) (b : Byte) : (s.setTxSlot e b).fatal = s.fatal := by cases e <;> rfl
@[simp] theorem State.setTxSlot_txT0 (s : State) (e : Ep) (b : Byte) : (s.setTxSlot e b).txT0 = s.txT0 := by cases e <;> rfl
@[simp] theorem State.setTxSlot_trace (s : State) (e : Ep) (b : Byte) : (s.setTxSlot e b).trace = s.trace := by cases e <;> rfl
@[simp] theorem State.setTxSlot_faults (s : State) (e : Ep) (b : Byte) : (s.setTxSlot e b).faults = s.faults := by cases e <;> rfl
@[simp] theorem State.setTxSlot_refusedMark (s : State) (e : Ep) (b : Byte) : (s.setTxSlot e b).refusedMark = s.refusedMark := by cases e <;> rfl
@[simp] theorem State.setTxSlot_rom (s : State) (e : Ep) (b : Byte) : (s.setTxSlot e b).rom = s.rom := by cases e <;> rfl
@[simp] theorem State.setTxSlot_params (s : State) (e : Ep) (b : Byte) : (s.setTxSlot e b).params = s.params := by cases e <;> rfl
@[simp] theorem State.setTxSlot_schedule (s : State) (e : Ep) (b : Byte) : (s.setTxSlot e b).schedule = s.schedule := by cases e <;> rfl
@[simp] theorem State.setTxSlot_moveNo (s : State) (e : Ep) (b : Byte) : (s.setTxSlot e b).moveNo = s.moveNo := by cases e <;> rfl
@[simp] theorem State.setTxSlot_ep_same (s : State) (e : Ep) (b : Byte) : (s.setTxSlot e b).ep e = { s.ep e with txSlot := b } := by cases e <;> rfl
@[simp] theorem State.setTxSlot_ep_other (s : State) (e : Ep) (b : Byte) : (s.setTxSlot e b).ep (otherEp e) = s.ep (otherEp e) := by cases e <;> rfl

/-! ### `enterFatal` -/

@[simp] theorem enterFatal_de (s : State) : (enterFatal s).de = s.de := rfl
@[simp] theorem enterFatal_dirT0 (s : State) : (enterFatal s).dirT0 = s.dirT0 := rfl
@[simp] theorem enterFatal_epA (s : State) : (enterFatal s).epA = s.epA := rfl
@[simp] theorem enterFatal_epB (s : State) : (enterFatal s).epB = s.epB := rfl
@[simp] theorem enterFatal_now (s : State) : (enterFatal s).now = s.now := rfl
@[simp] theorem enterFatal_hbLast (s : State) : (enterFatal s).hbLast = s.hbLast := rfl
@[simp] theorem enterFatal_led (s : State) : (enterFatal s).led = s.led := rfl
@[simp] theorem enterFatal_upc (s : State) : (enterFatal s).upc = s.upc := rfl
@[simp] theorem enterFatal_ph (s : State) : (enterFatal s).ph = s.ph := rfl
@[simp] theorem enterFatal_txPend (s : State) : (enterFatal s).txPend = s.txPend := rfl
@[simp] theorem enterFatal_txres (s : State) : (enterFatal s).txres = s.txres := rfl
@[simp] theorem enterFatal_initPend (s : State) : (enterFatal s).initPend = s.initPend := rfl
@[simp] theorem enterFatal_initOk (s : State) : (enterFatal s).initOk = s.initOk := rfl
@[simp] theorem enterFatal_fatal (s : State) : (enterFatal s).fatal = true := rfl
@[simp] theorem enterFatal_txT0 (s : State) : (enterFatal s).txT0 = s.txT0 := rfl
@[simp] theorem enterFatal_trace (s : State) : (enterFatal s).trace = s.trace ++ [.fatal] := rfl
@[simp] theorem enterFatal_faults (s : State) : (enterFatal s).faults = s.faults := rfl
@[simp] theorem enterFatal_refusedMark (s : State) : (enterFatal s).refusedMark = s.refusedMark := rfl
@[simp] theorem enterFatal_rom (s : State) : (enterFatal s).rom = s.rom := rfl
@[simp] theorem enterFatal_params (s : State) : (enterFatal s).params = s.params := rfl
@[simp] theorem enterFatal_schedule (s : State) : (enterFatal s).schedule = s.schedule := rfl
@[simp] theorem enterFatal_moveNo (s : State) : (enterFatal s).moveNo = s.moveNo := rfl
@[simp] theorem enterFatal_ep (s : State) (x : Ep) : (enterFatal s).ep x = s.ep x := by cases x <;> rfl

/-! ### `dropByte` -/

@[simp] theorem dropByte_de (s : State) (e : Ep) (b : Byte) : (dropByte s e b).de = s.de := rfl
@[simp] theorem dropByte_dirT0 (s : State) (e : Ep) (b : Byte) : (dropByte s e b).dirT0 = s.dirT0 := rfl
@[simp] theorem dropByte_epA (s : State) (e : Ep) (b : Byte) : (dropByte s e b).epA = s.epA := rfl
@[simp] theorem dropByte_epB (s : State) (e : Ep) (b : Byte) : (dropByte s e b).epB = s.epB := rfl
@[simp] theorem dropByte_now (s : State) (e : Ep) (b : Byte) : (dropByte s e b).now = s.now := rfl
@[simp] theorem dropByte_hbLast (s : State) (e : Ep) (b : Byte) : (dropByte s e b).hbLast = s.hbLast := rfl
@[simp] theorem dropByte_led (s : State) (e : Ep) (b : Byte) : (dropByte s e b).led = s.led := rfl
@[simp] theorem dropByte_upc (s : State) (e : Ep) (b : Byte) : (dropByte s e b).upc = s.upc := rfl
@[simp] theorem dropByte_ph (s : State) (e : Ep) (b : Byte) : (dropByte s e b).ph = s.ph := rfl
@[simp] theorem dropByte_txPend (s : State) (e : Ep) (b : Byte) : (dropByte s e b).txPend = s.txPend := rfl
@[simp] theorem dropByte_txres (s : State) (e : Ep) (b : Byte) : (dropByte s e b).txres = s.txres := rfl
@[simp] theorem dropByte_initPend (s : State) (e : Ep) (b : Byte) : (dropByte s e b).initPend = s.initPend := rfl
@[simp] theorem dropByte_initOk (s : State) (e : Ep) (b : Byte) : (dropByte s e b).initOk = s.initOk := rfl
@[simp] theorem dropByte_fatal (s : State) (e : Ep) (b : Byte) : (dropByte s e b).fatal = s.fatal := rfl
@[simp] theorem dropByte_txT0 (s : State) (e : Ep) (b : Byte) : (dropByte s e b).txT0 = s.txT0 := rfl
@[simp] theorem dropByte_trace (s : State) (e : Ep) (b : Byte) : (dropByte s e b).trace = s.trace ++ [.drop e b] := rfl
@[simp] theorem dropByte_faults (s : State) (e : Ep) (b : Byte) : (dropByte s e b).faults = s.faults := rfl
@[simp] theorem dropByte_refusedMark (s : State) (e : Ep) (b : Byte) : (dropByte s e b).refusedMark = s.refusedMark := rfl
@[simp] theorem dropByte_rom (s : State) (e : Ep) (b : Byte) : (dropByte s e b).rom = s.rom := rfl
@[simp] theorem dropByte_params (s : State) (e : Ep) (b : Byte) : (dropByte s e b).params = s.params := rfl
@[simp] theorem dropByte_schedule (s : State) (e : Ep) (b : Byte) : (dropByte s e b).schedule = s.schedule := rfl
@[simp] theorem dropByte_moveNo (s : State) (e : Ep) (b : Byte) : (dropByte s e b).moveNo = s.moveNo := rfl
@[simp] theorem dropByte_ep (s : State) (e : Ep) (b : Byte) (x : Ep) : (dropByte s e b).ep x = s.ep x := by cases x <;> rfl

/-! ### `takeReceive` -/

@[simp] theorem takeReceive_de (s : State) (e : Ep) (b : Byte) : (takeReceive s e b).de = s.de := by cases e <;> rfl
@[simp] theorem takeReceive_dirT0 (s : State) (e : Ep) (b : Byte) : (takeReceive s e b).dirT0 = s.dirT0 := by cases e <;> rfl
@[simp] theorem takeReceive_now (s : State) (e : Ep) (b : Byte) : (takeReceive s e b).now = s.now := by cases e <;> rfl
@[simp] theorem takeReceive_hbLast (s : State) (e : Ep) (b : Byte) : (takeReceive s e b).hbLast = s.hbLast := by cases e <;> rfl
@[simp] theorem takeReceive_led (s : State) (e : Ep) (b : Byte) : (takeReceive s e b).led = s.led := by cases e <;> rfl
@[simp] theorem takeReceive_upc (s : State) (e : Ep) (b : Byte) : (takeReceive s e b).upc = s.upc := by cases e <;> rfl
@[simp] theorem takeReceive_ph (s : State) (e : Ep) (b : Byte) : (takeReceive s e b).ph = s.ph := by cases e <;> rfl
@[simp] theorem takeReceive_txPend (s : State) (e : Ep) (b : Byte) : (takeReceive s e b).txPend = s.txPend := by cases e <;> rfl
@[simp] theorem takeReceive_txres (s : State) (e : Ep) (b : Byte) : (takeReceive s e b).txres = s.txres := by cases e <;> rfl
@[simp] theorem takeReceive_initPend (s : State) (e : Ep) (b : Byte) : (takeReceive s e b).initPend = s.initPend := by cases e <;> rfl
@[simp] theorem takeReceive_initOk (s : State) (e : Ep) (b : Byte) : (takeReceive s e b).initOk = s.initOk := by cases e <;> rfl
@[simp] theorem takeReceive_fatal (s : State) (e : Ep) (b : Byte) : (takeReceive s e b).fatal = s.fatal := by cases e <;> rfl
@[simp] theorem takeReceive_txT0 (s : State) (e : Ep) (b : Byte) : (takeReceive s e b).txT0 = s.txT0 := by cases e <;> rfl
@[simp] theorem takeReceive_trace (s : State) (e : Ep) (b : Byte) : (takeReceive s e b).trace = s.trace ++ [.rx e b] := by cases e <;> rfl
@[simp] theorem takeReceive_faults (s : State) (e : Ep) (b : Byte) : (takeReceive s e b).faults = s.faults := by cases e <;> rfl
@[simp] theorem takeReceive_refusedMark (s : State) (e : Ep) (b : Byte) : (takeReceive s e b).refusedMark = s.refusedMark := by cases e <;> rfl
@[simp] theorem takeReceive_rom (s : State) (e : Ep) (b : Byte) : (takeReceive s e b).rom = s.rom := by cases e <;> rfl
@[simp] theorem takeReceive_params (s : State) (e : Ep) (b : Byte) : (takeReceive s e b).params = s.params := by cases e <;> rfl
@[simp] theorem takeReceive_schedule (s : State) (e : Ep) (b : Byte) : (takeReceive s e b).schedule = s.schedule := by cases e <;> rfl
@[simp] theorem takeReceive_moveNo (s : State) (e : Ep) (b : Byte) : (takeReceive s e b).moveNo = s.moveNo := by cases e <;> rfl
@[simp] theorem takeReceive_ep_same (s : State) (e : Ep) (b : Byte) : (takeReceive s e b).ep e = { s.ep e with rxSlot := b, armed := false, flag := true } := by cases e <;> rfl
@[simp] theorem takeReceive_ep_other (s : State) (e : Ep) (b : Byte) : (takeReceive s e b).ep (otherEp e) = s.ep (otherEp e) := by cases e <;> rfl

/-! ### `resetRegisters` -/

@[simp] theorem State.resetRegisters_de (s : State) : (s.resetRegisters).de = .receive := rfl
@[simp] theorem State.resetRegisters_dirT0 (s : State) : (s.resetRegisters).dirT0 = 0 := rfl
@[simp] theorem State.resetRegisters_epA (s : State) : (s.resetRegisters).epA = Endpoint.reset := rfl
@[simp] theorem State.resetRegisters_epB (s : State) : (s.resetRegisters).epB = Endpoint.reset := rfl
@[simp] theorem State.resetRegisters_now (s : State) : (s.resetRegisters).now = 0 := rfl
@[simp] theorem State.resetRegisters_hbLast (s : State) : (s.resetRegisters).hbLast = 0 := rfl
@[simp] theorem State.resetRegisters_led (s : State) : (s.resetRegisters).led = false := rfl
@[simp] theorem State.resetRegisters_upc (s : State) : (s.resetRegisters).upc = 0 := rfl
@[simp] theorem State.resetRegisters_ph (s : State) : (s.resetRegisters).ph = 0 := rfl
@[simp] theorem State.resetRegisters_txPend (s : State) : (s.resetRegisters).txPend = false := rfl
@[simp] theorem State.resetRegisters_txres (s : State) : (s.resetRegisters).txres = false := rfl
@[simp] theorem State.resetRegisters_initPend (s : State) : (s.resetRegisters).initPend = false := rfl
@[simp] theorem State.resetRegisters_initOk (s : State) : (s.resetRegisters).initOk = false := rfl
@[simp] theorem State.resetRegisters_fatal (s : State) : (s.resetRegisters).fatal = false := rfl
@[simp] theorem State.resetRegisters_txT0 (s : State) : (s.resetRegisters).txT0 = s.txT0 := rfl
@[simp] theorem State.resetRegisters_trace (s : State) : (s.resetRegisters).trace = s.trace := rfl
@[simp] theorem State.resetRegisters_faults (s : State) : (s.resetRegisters).faults = s.faults := rfl
@[simp] theorem State.resetRegisters_refusedMark (s : State) : (s.resetRegisters).refusedMark = s.refusedMark := rfl
@[simp] theorem State.resetRegisters_rom (s : State) : (s.resetRegisters).rom = s.rom := rfl
@[simp] theorem State.resetRegisters_params (s : State) : (s.resetRegisters).params = s.params := rfl
@[simp] theorem State.resetRegisters_schedule (s : State) : (s.resetRegisters).schedule = s.schedule := rfl
@[simp] theorem State.resetRegisters_moveNo (s : State) : (s.resetRegisters).moveNo = s.moveNo := rfl
@[simp] theorem State.resetRegisters_ep (s : State) (x : Ep) : (s.resetRegisters).ep x = Endpoint.reset := by cases x <;> rfl

/-! ### `popMove` -/

@[simp] theorem State.popMove_de (s : State) : s.popMove.de = s.de := by unfold State.popMove; split <;> rfl
@[simp] theorem State.popMove_dirT0 (s : State) : s.popMove.dirT0 = s.dirT0 := by unfold State.popMove; split <;> rfl
@[simp] theorem State.popMove_epA (s : State) : s.popMove.epA = s.epA := by unfold State.popMove; split <;> rfl
@[simp] theorem State.popMove_epB (s : State) : s.popMove.epB = s.epB := by unfold State.popMove; split <;> rfl
@[simp] theorem State.popMove_now (s : State) : s.popMove.now = s.now := by unfold State.popMove; split <;> rfl
@[simp] theorem State.popMove_hbLast (s : State) : s.popMove.hbLast = s.hbLast := by unfold State.popMove; split <;> rfl
@[simp] theorem State.popMove_led (s : State) : s.popMove.led = s.led := by unfold State.popMove; split <;> rfl
@[simp] theorem State.popMove_upc (s : State) : s.popMove.upc = s.upc := by unfold State.popMove; split <;> rfl
@[simp] theorem State.popMove_ph (s : State) : s.popMove.ph = s.ph := by unfold State.popMove; split <;> rfl
@[simp] theorem State.popMove_txPend (s : State) : s.popMove.txPend = s.txPend := by unfold State.popMove; split <;> rfl
@[simp] theorem State.popMove_txres (s : State) : s.popMove.txres = s.txres := by unfold State.popMove; split <;> rfl
@[simp] theorem State.popMove_initPend (s : State) : s.popMove.initPend = s.initPend := by unfold State.popMove; split <;> rfl
@[simp] theorem State.popMove_initOk (s : State) : s.popMove.initOk = s.initOk := by unfold State.popMove; split <;> rfl
@[simp] theorem State.popMove_fatal (s : State) : s.popMove.fatal = s.fatal := by unfold State.popMove; split <;> rfl
@[simp] theorem State.popMove_txT0 (s : State) : s.popMove.txT0 = s.txT0 := by unfold State.popMove; split <;> rfl
@[simp] theorem State.popMove_trace (s : State) : s.popMove.trace = s.trace := by unfold State.popMove; split <;> rfl
@[simp] theorem State.popMove_faults (s : State) : s.popMove.faults = s.faults := by unfold State.popMove; split <;> rfl
@[simp] theorem State.popMove_refusedMark (s : State) : s.popMove.refusedMark = s.refusedMark := by unfold State.popMove; split <;> rfl
@[simp] theorem State.popMove_rom (s : State) : s.popMove.rom = s.rom := by unfold State.popMove; split <;> rfl
@[simp] theorem State.popMove_params (s : State) : s.popMove.params = s.params := by unfold State.popMove; split <;> rfl
@[simp] theorem State.popMove_ep (s : State) (x : Ep) : s.popMove.ep x = s.ep x := by cases x <;> simp [State.ep]

end Sys2Proof.Machine
end

