-- ==== Sys2Proof/Laws/Ops.lean ====
section
/-! SUPPORT. For each shared operation, once, everything it can do: the inversion lemmas that later proofs cite. -/

namespace Sys2Proof.Machine

theorem otherEp_otherEp (e : Ep) : otherEp (otherEp e) = e := by cases e <;> rfl

theorem otherEp_ne (e : Ep) : otherEp e ≠ e := by cases e <;> decide

theorem eq_or_eq_other (e x : Ep) : x = e ∨ x = otherEp e := by cases e <;> cases x <;> simp [otherEp]

/-- An equation between next states, turned towards the state that is being described. -/
theorem next_eq_next {u t : State} : ((.next u : Result) = .next t) ↔ t = u := by
  rw [Host.Outcome.next.injEq]
  exact eq_comm

/-- The same for faults. -/
theorem fault_eq_fault {f g : Fault} : ((.fault f : Result) = .fault g) ↔ g = f := by
  rw [Host.Outcome.fault.injEq]
  exact eq_comm

@[simp] theorem setEp_flag (s : State) (e x : Ep) (v : Endpoint) :
    (s.setEp e v).flag x = if x = e then v.flag else s.flag x := by cases e <;> cases x <;> rfl

@[simp] theorem setEp_armed (s : State) (e x : Ep) (v : Endpoint) :
    (s.setEp e v).armed x = if x = e then v.armed else s.armed x := by cases e <;> cases x <;> rfl

@[simp] theorem setEp_rxSlot (s : State) (e x : Ep) (v : Endpoint) :
    (s.setEp e v).rxSlot x = if x = e then v.rxSlot else s.rxSlot x := by cases e <;> cases x <;> rfl

@[simp] theorem setEp_txSlot (s : State) (e x : Ep) (v : Endpoint) :
    (s.setEp e v).txSlot x = if x = e then v.txSlot else s.txSlot x := by cases e <;> cases x <;> rfl

/-- Every view of an endpoint's registers follows from its record. -/
theorem views_of_ep {s t : State} {e : Ep} (h : t.ep e = s.ep e) :
    t.flag e = s.flag e ∧ t.armed e = s.armed e ∧ t.rxSlot e = s.rxSlot e ∧ t.txSlot e = s.txSlot e := by
  simp [State.flag, State.armed, State.rxSlot, State.txSlot, h]

theorem whenLive_next {s t : State} {k : Result} : whenLive s k = .next t ↔ s.stopped = false ∧ k = .next t := by
  unfold whenLive
  split <;> simp_all

theorem whenLive_of_live {s : State} {k : Result} (h : s.stopped = false) : whenLive s k = k := by simp [whenLive, h]

theorem whenLive_of_stopped {s : State} {k : Result} (h : s.stopped = true) : whenLive s k = .fault .runEnded := by
  simp [whenLive, h]

theorem singlePhase_next {s t : State} {k : Result} : singlePhase s k = .next t ↔ s.ph = 0 ∧ k = .next t := by
  unfold singlePhase
  split <;> simp_all [refuseBadPhase]

theorem andThen_next {o : Result} {k : State → Result} {t : State} :
    andThen o k = .next t ↔ ∃ u, o = .next u ∧ k u = .next t := by
  cases o <;> simp [andThen]

theorem dirPhase_next {d : Dir} {p : Phase} {s t : State} :
    dirPhase d p s = .next t ↔
      ¬ (d = .transmit ∧ s.de = .transmit) ∧ t = (s.writeDir d).setPh p := by
  unfold dirPhase dirWrite raiseNestedDir
  split <;> simp_all [andThen, next_eq_next, -Host.Outcome.next.injEq]

theorem dirPhase_fault {d : Dir} {p : Phase} {s : State} {f : Fault} :
    dirPhase d p s = .fault f ↔ d = .transmit ∧ s.de = .transmit ∧ f = .nestedDir s.upc s.fetched := by
  unfold dirPhase dirWrite raiseNestedDir
  split <;> simp_all [andThen, fault_eq_fault, -Host.Outcome.fault.injEq]

theorem dirPhase_refused {d : Dir} {p : Phase} {s : State} {r : Refusal} : dirPhase d p s ≠ .refused r := by
  unfold dirPhase dirWrite raiseNestedDir
  split <;> simp [andThen]

theorem settlePhase_next {s t u : State} :
    settlePhase s t = .next u ↔ (s.settleDone = true ∧ u = t) ∨ (s.settleDone = false ∧ u = s) := by
  unfold settlePhase hold
  split <;> simp_all [next_eq_next, -Host.Outcome.next.injEq]

theorem relayTxReq_next {o : Ep} {s t : State} :
    relayTxReq o s = .next t ↔ ¬ (o = .B ∧ s.de = .receive) ∧ t = (s.requestTx o).setPh 5#4 := by
  unfold relayTxReq raiseBusUndriven
  split <;> simp_all [next_eq_next, -Host.Outcome.next.injEq]

/-! ### Which phase rule a multi-phase command runs (30_encoding.md R113) -/

theorem execInit_ph0 {s : State} (h : s.ph = 0) : execInit s = initReq s := by simp [execInit, h]
theorem execInit_ph1 {s : State} (h : s.ph = 1) : execInit s = initWait s := by simp [execInit, h]
theorem execSetdir_ph0 {d : Dir} {s : State} (h : s.ph = 0) : execSetdir d s = dirPhase d 1#4 s := by simp [execSetdir, h]
theorem execSetdir_ph1 {d : Dir} {s : State} (h : s.ph = 1) : execSetdir d s = settlePhase s s.advance := by
  simp [execSetdir, h]

section
variable {e : Ep} {sw : Bool} {s : State}

theorem execRelay_ph0 (h : s.ph = 0) : execRelay e sw s = relayCheck e s := by simp [execRelay, h]
theorem execRelay_ph1 (h : s.ph = 1) : execRelay e sw s = relayClear e sw s := by simp [execRelay, h]
theorem execRelay_ph2 (h : s.ph = 2) : execRelay e sw s = relayDirTx s := by simp [execRelay, h]
theorem execRelay_ph3 (h : s.ph = 3) : execRelay e sw s = relaySettleTx s := by simp [execRelay, h]
theorem execRelay_ph4 (h : s.ph = 4) : execRelay e sw s = relayTxReq (otherEp e) s := by simp [execRelay, h]
theorem execRelay_ph5 (h : s.ph = 5) : execRelay e sw s = relayTxWait sw s := by simp [execRelay, h]
theorem execRelay_ph6 (h : s.ph = 6) : execRelay e sw s = relayDirRx s := by simp [execRelay, h]
theorem execRelay_ph7 (h : s.ph = 7) : execRelay e sw s = relaySettleRx s := by simp [execRelay, h]
theorem execRelay_ph8 (h : s.ph = 8) : execRelay e sw s = relayRearm e s := by simp [execRelay, h]
theorem execRelay_ph9 (h : s.ph = 9) : execRelay e sw s = relayLed s := by simp [execRelay, h]

end

/-! ### One lemma for each meaning: what holds when it answers a next state -/

theorem execInit_next {s t : State} :
    execInit s = .next t ↔
      (s.ph = 0 ∧ t = s.requestInit.setPh 1#4) ∨
      (s.ph = 1 ∧ s.initPend = true ∧ t = s) ∨
      (s.ph = 1 ∧ s.initPend = false ∧ s.initOk = true ∧ t = s.advance) ∨
      (s.ph = 1 ∧ s.initPend = false ∧ s.initOk = false ∧ t = enterFatal s) := by
  unfold execInit
  split <;> rename_i h <;> simp only [initReq, initWait, hold, refuseBadPhase]
  · simp [h, next_eq_next, -Host.Outcome.next.injEq]
  · split
    · simp_all [next_eq_next, -Host.Outcome.next.injEq]
    · split <;> simp_all [next_eq_next, -Host.Outcome.next.injEq]
  · simp_all

theorem execArm_next {e : Ep} {s t : State} :
    execArm e s = .next t ↔
      s.ph = 0 ∧ s.flag e = false ∧
        ((s.armed e = true ∧ t = s.advance) ∨ (s.armed e = false ∧ t = (s.armEp e).advance)) := by
  unfold execArm raiseArmPending
  rw [singlePhase_next]
  split
  · simp_all
  · split <;> simp_all [next_eq_next, -Host.Outcome.next.injEq]

theorem execSetdir_next {d : Dir} {s t : State} :
    execSetdir d s = .next t ↔ (s.ph = 0 ∧ dirPhase d 1#4 s = .next t) ∨ (s.ph = 1 ∧ settlePhase s s.advance = .next t) := by
  unfold execSetdir
  split <;> simp_all [refuseBadPhase]

theorem execRelay_next {e : Ep} {sw : Bool} {s t : State} :
    execRelay e sw s = .next t ↔
      (s.ph = 0 ∧ relayCheck e s = .next t) ∨ (s.ph = 1 ∧ relayClear e sw s = .next t) ∨
      (s.ph = 2 ∧ relayDirTx s = .next t) ∨ (s.ph = 3 ∧ relaySettleTx s = .next t) ∨
      (s.ph = 4 ∧ relayTxReq (otherEp e) s = .next t) ∨ (s.ph = 5 ∧ relayTxWait sw s = .next t) ∨
      (s.ph = 6 ∧ relayDirRx s = .next t) ∨ (s.ph = 7 ∧ relaySettleRx s = .next t) ∨
      (s.ph = 8 ∧ relayRearm e s = .next t) ∨ (s.ph = 9 ∧ relayLed s = .next t) := by
  unfold execRelay
  split <;> simp_all [refuseBadPhase]

theorem execHbeat_next {s t : State} :
    execHbeat s = .next t ↔ s.ph = 0 ∧ t = (if s.heartbeatDue then s.blink else s).advance := by
  unfold execHbeat
  rw [singlePhase_next]
  simp [next_eq_next, -Host.Outcome.next.injEq]

theorem execJmp_next {a : Addr} {s t : State} : execJmp a s = .next t ↔ s.ph = 0 ∧ t = s.jumpTo a := by
  unfold execJmp
  rw [singlePhase_next]
  simp [next_eq_next, -Host.Outcome.next.injEq]

theorem execRxc_next {e : Ep} {b : Byte} {s t : State} :
    execRxc e b s = .next t ↔ s.stopped = false ∧ t = if s.armed e then takeReceive s e b else dropByte s e b := by
  unfold execRxc
  rw [whenLive_next]
  simp [next_eq_next, -Host.Outcome.next.injEq]

theorem execTick_next {s t : State} : execTick s = .next t ↔ s.stopped = false ∧ t = s.tickOnce := by
  unfold execTick
  rw [whenLive_next]
  simp [next_eq_next, -Host.Outcome.next.injEq]

theorem execTxdone_next {r : Bool} {s t : State} :
    execTxdone r s = .next t ↔ s.stopped = false ∧ t = if s.txPend then s.answerTx r else s := by
  unfold execTxdone notEnabled
  rw [whenLive_next]
  split <;> simp [next_eq_next, -Host.Outcome.next.injEq]

theorem execInitdone_next {r : Bool} {s t : State} :
    execInitdone r s = .next t ↔ s.stopped = false ∧ t = if s.initPend then s.answerInit r else s := by
  unfold execInitdone notEnabled
  rw [whenLive_next]
  split <;> simp [next_eq_next, -Host.Outcome.next.injEq]

theorem execReset_next {s t : State} : execReset s = .next t ↔ s.stopped = false ∧ t = s.resetRegisters.emit .rst := by
  unfold execReset
  rw [whenLive_next]
  simp [next_eq_next, -Host.Outcome.next.injEq]

theorem fatalBlink_next {s t : State} :
    fatalBlink s = .next t ↔ (s.blinkDue = true ∧ t = s.blink) ∨ (s.blinkDue = false ∧ t = s) := by
  unfold fatalBlink hold
  split <;> simp_all [next_eq_next, -Host.Outcome.next.injEq]

end Sys2Proof.Machine
end

