-- ==== Sys2Proof/Laws/Exec.lean ====
section
/-! SUPPORT. Everything a meaning can do when it answers a next state, one case for each branch of the spec's pseudocode. -/

namespace Sys2Proof.Machine

/-- The branches of the commands' phases and of the events. `stay` is a hold, or an event that is not enabled. -/
inductive Effect : Instr → State → State → Prop
  | stay {i : Instr} {s : State} : Effect i s s
  | initReq {s : State} (hp : s.ph = 0) : Effect .init s (s.requestInit.setPh 1#4)
  | initOk {s : State} (hp : s.ph = 1) (h1 : s.initPend = false) (h2 : s.initOk = true) : Effect .init s s.advance
  | initFail {s : State} (hp : s.ph = 1) (h1 : s.initPend = false) (h2 : s.initOk = false) : Effect .init s (enterFatal s)
  | armAgain (e : Ep) {s : State} (hp : s.ph = 0) (hf : s.flag e = false) (ha : s.armed e = true) :
      Effect (.arm e) s s.advance
  | armNew (e : Ep) {s : State} (hp : s.ph = 0) (hf : s.flag e = false) (ha : s.armed e = false) :
      Effect (.arm e) s (s.armEp e).advance
  | setdirWrite (d : Dir) {s : State} (hp : s.ph = 0) (hd : ¬ (d = .transmit ∧ s.de = .transmit)) :
      Effect (.setdir d) s ((s.writeDir d).setPh 1#4)
  | setdirSettled (d : Dir) {s : State} (hp : s.ph = 1) (hs : s.settleDone = true) : Effect (.setdir d) s s.advance
  | checkSet (e : Ep) (sw : Bool) {s : State} (hp : s.ph = 0) (hf : s.flag e = true) : Effect (.relay e sw) s (s.setPh 1#4)
  | checkClear (e : Ep) (sw : Bool) {s : State} (hp : s.ph = 0) (hf : s.flag e = false) : Effect (.relay e sw) s s.advance
  | clear (e : Ep) (sw : Bool) {s : State} (hp : s.ph = 1) :
      Effect (.relay e sw) s (((s.clearFlag e).setTxSlot (otherEp e) (s.rxSlot e)).setPh (if sw then 2#4 else 4#4))
  | dirTx (e : Ep) (sw : Bool) {s : State} (hp : s.ph = 2) (hd : s.de = .receive) :
      Effect (.relay e sw) s ((s.writeDir .transmit).setPh 3#4)
  | settledTx (e : Ep) (sw : Bool) {s : State} (hp : s.ph = 3) (hs : s.settleDone = true) :
      Effect (.relay e sw) s (s.setPh 4#4)
  | txReq (e : Ep) (sw : Bool) {s : State} (hp : s.ph = 4) (hd : ¬ (otherEp e = .B ∧ s.de = .receive)) :
      Effect (.relay e sw) s ((s.requestTx (otherEp e)).setPh 5#4)
  | answered (e : Ep) (sw : Bool) {s : State} (hp : s.ph = 5) (hq : s.txPend = false) :
      Effect (.relay e sw) s (s.setPh (if sw then 6#4 else 8#4))
  | dirRx (e : Ep) (sw : Bool) {s : State} (hp : s.ph = 6) : Effect (.relay e sw) s ((s.writeDir .receive).setPh 7#4)
  | settledRx (e : Ep) (sw : Bool) {s : State} (hp : s.ph = 7) (hs : s.settleDone = true) :
      Effect (.relay e sw) s (s.setPh 8#4)
  | rearm (e : Ep) (sw : Bool) {s : State} (hp : s.ph = 8) : Effect (.relay e sw) s ((s.armEp e).setPh 9#4)
  | ledToggle (e : Ep) (sw : Bool) {s : State} (hp : s.ph = 9) (ht : s.relayToggles = true) :
      Effect (.relay e sw) s s.toggleLed.advance
  | ledKeep (e : Ep) (sw : Bool) {s : State} (hp : s.ph = 9) (ht : s.relayToggles = false) : Effect (.relay e sw) s s.advance
  | beat {s : State} (hp : s.ph = 0) (hb : s.heartbeatDue = true) : Effect .hbeat s s.blink.advance
  | noBeat {s : State} (hp : s.ph = 0) (hb : s.heartbeatDue = false) : Effect .hbeat s s.advance
  | jump (a : Addr) {s : State} (hp : s.ph = 0) : Effect (.jmp a) s (s.jumpTo a)
  | take (e : Ep) (b : Byte) {s : State} (ha : s.armed e = true) : Effect (.rxc e b) s (takeReceive s e b)
  | drop (e : Ep) (b : Byte) {s : State} (ha : s.armed e = false) : Effect (.rxc e b) s (dropByte s e b)
  | tick {s : State} : Effect .tick s s.tickOnce
  | txdone (r : Bool) {s : State} (hq : s.txPend = true) : Effect (.txdone r) s (s.answerTx r)
  | initdone (r : Bool) {s : State} (hq : s.initPend = true) : Effect (.initdone r) s (s.answerInit r)
  | reset {s : State} : Effect .reset s (s.resetRegisters.emit .rst)

/-- The inversion lemma of `exec`: a next state is one of the effects. -/
theorem exec_effect {i : Instr} {s t : State} (h : exec i s = .next t) : Effect i s t := by
  cases i with
  | init =>
    rcases execInit_next.1 h with ⟨h0, rfl⟩ | ⟨-, -, rfl⟩ | ⟨h0, h1, h2, rfl⟩ | ⟨h0, h1, h2, rfl⟩
    exacts [.initReq h0, .stay, .initOk h0 h1 h2, .initFail h0 h1 h2]
  | arm e =>
    obtain ⟨h0, hf, ⟨ha, rfl⟩ | ⟨ha, rfl⟩⟩ := execArm_next.1 h
    exacts [.armAgain e h0 hf ha, .armNew e h0 hf ha]
  | setdir d =>
    rcases execSetdir_next.1 h with ⟨h0, h⟩ | ⟨h0, h⟩
    · obtain ⟨hd, rfl⟩ := dirPhase_next.1 h
      exact .setdirWrite d h0 hd
    · rcases settlePhase_next.1 h with ⟨hs, rfl⟩ | ⟨-, rfl⟩
      exacts [.setdirSettled d h0 hs, .stay]
  | relay e sw =>
    rcases execRelay_next.1 h with
      ⟨p, h⟩ | ⟨p, h⟩ | ⟨p, h⟩ | ⟨p, h⟩ | ⟨p, h⟩ | ⟨p, h⟩ | ⟨p, h⟩ | ⟨p, h⟩ | ⟨p, h⟩ | ⟨p, h⟩
    · obtain rfl := next_eq_next.1 h
      split
      exacts [.checkSet e sw p ‹_›, .checkClear e sw p (Bool.eq_false_iff.2 ‹_›)]
    · obtain rfl := next_eq_next.1 h
      exact .clear e sw p
    · obtain ⟨hd, rfl⟩ := dirPhase_next.1 h
      exact .dirTx e sw p (by cases hq : s.de <;> simp_all)
    · rcases settlePhase_next.1 h with ⟨hs, rfl⟩ | ⟨-, rfl⟩
      exacts [.settledTx e sw p hs, .stay]
    · obtain ⟨hd, rfl⟩ := relayTxReq_next.1 h
      exact .txReq e sw p hd
    · unfold relayTxWait hold at h
      split at h <;> obtain rfl := next_eq_next.1 h
      exacts [.stay, .answered e sw p (Bool.eq_false_iff.2 ‹_›)]
    · obtain ⟨-, rfl⟩ := dirPhase_next.1 h
      exact .dirRx e sw p
    · rcases settlePhase_next.1 h with ⟨hs, rfl⟩ | ⟨-, rfl⟩
      exacts [.settledRx e sw p hs, .stay]
    · obtain rfl := next_eq_next.1 h
      exact .rearm e sw p
    · obtain rfl := next_eq_next.1 h
      split
      exacts [.ledToggle e sw p ‹_›, .ledKeep e sw p (Bool.eq_false_iff.2 ‹_›)]
  | hbeat =>
    obtain ⟨h0, rfl⟩ := execHbeat_next.1 h
    split
    exacts [.beat h0 ‹_›, .noBeat h0 (Bool.eq_false_iff.2 ‹_›)]
  | jmp a =>
    obtain ⟨h0, rfl⟩ := execJmp_next.1 h
    exact .jump a h0
  | rxc e b =>
    obtain ⟨-, rfl⟩ := execRxc_next.1 h
    split
    exacts [.take e b ‹_›, .drop e b (Bool.eq_false_iff.2 ‹_›)]
  | tick =>
    obtain ⟨-, rfl⟩ := execTick_next.1 h
    exact .tick
  | txdone r =>
    obtain ⟨-, rfl⟩ := execTxdone_next.1 h
    split
    exacts [.txdone r ‹_›, .stay]
  | initdone r =>
    obtain ⟨-, rfl⟩ := execInitdone_next.1 h
    split
    exacts [.initdone r ‹_›, .stay]
  | reset =>
    obtain ⟨-, rfl⟩ := execReset_next.1 h
    exact .reset

end Sys2Proof.Machine
end

