-- ==== Sys2Proof/Laws/Memory.lean ====
section
/-! SUPPORT. The laws of the ROM's cells: a read after a write, and the canonical form that every write keeps. -/

namespace Sys2Proof.Machine

theorem wfFrom_cons {lo d : Nat} {v : Byte} {m : Memory} :
    wfFrom lo ((d, v) :: m) = true ↔ lo ≤ d ∧ d < romCells ∧ v ≠ unlistedByte d ∧ wfFrom (d + 1) m = true := by
  simp [wfFrom, and_assoc]

theorem wfFrom_mono {lo lo' : Nat} (h : lo' ≤ lo) {m : Memory} (hm : wfFrom lo m = true) : wfFrom lo' m = true := by
  cases m with
  | nil => rfl
  | cons p m =>
    obtain ⟨d, v⟩ := p
    rw [wfFrom_cons] at hm ⊢
    exact ⟨by omega, hm.2⟩

/-- Below its bound a canonical list lists nothing. -/
theorem readCell_below {lo c : Nat} (h : c < lo) {m : Memory} (hm : wfFrom lo m = true) : readCell m c = unlistedByte c := by
  induction m generalizing lo with
  | nil => rfl
  | cons p m ih =>
    obtain ⟨d, v⟩ := p
    obtain ⟨h1, -, -, h4⟩ := wfFrom_cons.1 hm
    rw [readCell, if_neg (by omega)]
    exact ih (by omega) h4

theorem writeCell_wfFrom {lo c : Nat} (hlo : lo ≤ c) (hc : c < romCells) (v : Byte) {m : Memory} (hm : wfFrom lo m = true) :
    wfFrom lo (writeCell m c v) = true := by
  induction m generalizing lo with
  | nil =>
    by_cases hv : v = unlistedByte c
    · simp [writeCell, hv, wfFrom]
    · simp [writeCell, hv, wfFrom, hlo, hc]
  | cons p m ih =>
    obtain ⟨d, u⟩ := p
    obtain ⟨h1, h2, h3, h4⟩ := wfFrom_cons.1 hm
    unfold writeCell
    split
    · split
      · exact hm
      · rename_i hlt hv
        exact wfFrom_cons.2 ⟨hlo, hc, hv, wfFrom_cons.2 ⟨hlt, h2, h3, h4⟩⟩
    · split
      · rename_i hcd
        subst hcd
        split
        · exact wfFrom_mono (by omega) h4
        · rename_i hv
          exact wfFrom_cons.2 ⟨hlo, hc, hv, h4⟩
      · exact wfFrom_cons.2 ⟨h1, h2, h3, ih (by omega) h4⟩

theorem readCell_writeCell {lo : Nat} (c c' : Nat) (v : Byte) {m : Memory} (hm : wfFrom lo m = true) :
    readCell (writeCell m c v) c' = if c' = c then v else readCell m c' := by
  induction m generalizing lo with
  | nil =>
    unfold writeCell
    split <;> rename_i hv <;> by_cases h : c' = c
    · simp [readCell, h, hv]
    · simp [readCell, h]
    · simp [readCell, h]
    · simp [readCell, h, Ne.symm h]
  | cons p m ih =>
    obtain ⟨d, u⟩ := p
    have hw := wfFrom_cons.1 hm
    unfold writeCell
    split
    · rename_i hlt
      split
      · rename_i hv
        split
        · rename_i h
          subst h
          rw [readCell_below (lo := d) hlt (wfFrom_cons.2 ⟨Nat.le_refl d, hw.2⟩), hv]
        · rfl
      · by_cases h : c' = c
        · simp [readCell, h]
        · simp [readCell, h, Ne.symm h]
    · split
      · rename_i hcd
        subst hcd
        split
        · rename_i hv
          split
          · rename_i h
            subst h
            rw [readCell_below (Nat.lt_succ_self _) hw.2.2.2, hv]
          · rename_i h
            simp [readCell, Ne.symm h]
        · by_cases h : c' = c
          · simp [readCell, h]
          · simp [readCell, h, Ne.symm h]
      · rename_i hlt hne
        rw [readCell, readCell, ih hw.2.2.2]
        by_cases h : c' = c
        · subst h
          simp [Ne.symm hne]
        · simp [h]

theorem writeCell_wf {c : Nat} (hc : c < romCells) (v : Byte) {m : Memory} (hm : m.wf = true) :
    Memory.wf (writeCell m c v) = true :=
  writeCell_wfFrom (Nat.zero_le c) hc v hm

theorem setRomWord_wf (a : Addr) (w : Word) {m : Memory} (hm : m.wf = true) : Memory.wf (setRomWord m a w) = true := by
  have ha : a.toNat < 256 := a.isLt
  refine writeCell_wf ?_ _ (writeCell_wf ?_ _ hm) <;> simp only [romCells, Config.romDepth] <;> omega

theorem reset_rom_wf : Memory.wf State.reset.rom = true := rfl

end Sys2Proof.Machine
end

