-- ==== Sys2Proof/Laws/PerInstr.lean ====
section
/-! SUPPORT. A fact about every row of the opcode table, one lemma for each constructor: the `op` field of an instruction's
word tells its class (30_encoding.md R90, R93). -/

namespace Sys2Proof.Laws.ClassOfOp

/-- `op` is in 0x0 to 0x7 for a command and in 0x8 to 0xF for an event. -/
def Statement (i : Instr) : Prop := (opField (encode i)).getLsbD 3 = i.wellFormedIn .event

theorem init : Statement .init := rfl

theorem arm (e : Ep) : Statement (.arm e) := by cases e <;> rfl

theorem setdir (d : Dir) : Statement (.setdir d) := by cases d <;> rfl

theorem relay (e : Ep) (sw : Bool) : Statement (.relay e sw) := by cases e <;> cases sw <;> rfl

theorem hbeat : Statement .hbeat := rfl

theorem jmp (a : Addr) : Statement (.jmp a) := by
  simp [Statement, encode, Instr.wellFormedIn, Instr.wordClass]

theorem rxc (e : Ep) (b : Byte) : Statement (.rxc e b) := by
  simp [Statement, encode, Instr.wellFormedIn, Instr.wordClass]

theorem tick : Statement .tick := rfl

theorem txdone (r : Bool) : Statement (.txdone r) := by cases r <;> rfl

theorem initdone (r : Bool) : Statement (.initdone r) := by cases r <;> rfl

theorem reset : Statement .reset := rfl

end Sys2Proof.Laws.ClassOfOp
end

