-- ==== Sys2Proof/Laws/Step.lean ====
section
/-! SUPPORT. What a step can do, said once: which agent acted, on which instruction. -/

namespace Sys2Proof.Machine

@[simp] theorem popMove_fetched (s : State) : s.popMove.fetched = s.fetched := by simp [State.fetched]

@[simp] theorem popMove_stopped (s : State) : s.popMove.stopped = s.stopped := by simp [State.stopped]

@[simp] theorem popMove_command (s : State) : s.popMove.command = s.command := by simp [State.command]

/-- SEQ's command is what the fetched word decodes to, outside the fatal state. -/
theorem command_eq_some {s : State} {i : Instr} :
    s.command = some i ↔ s.fatal = false ∧ decode s.fetched = .instr i ∧ i.wellFormedIn .command = true := by
  unfold State.command
  split
  · simp_all
  · split
    · rename_i j hj
      by_cases hw : j.wellFormedIn .command = true
      · simp_all
        rintro rfl
        exact hw
      · simp_all
        rintro rfl
        simpa using hw
    · simp_all

/-- A SEQ step that answers a next state is a fatal blink or one phase of the command SEQ is at. -/
theorem seqStep_next {s t : State} :
    seqStep s = .next t ↔
      (s.fatal = true ∧ fatalBlink s = .next t) ∨ (∃ i, s.command = some i ∧ exec i s = .next t) := by
  unfold seqStep State.command
  split
  · simp_all
  · split
    · split <;> simp_all [refuseFetch]
    · simp_all [refuseFetch]

/-- An input step that answers a next state runs a legal event. -/
theorem inputStep_next {w : Word} {s t : State} :
    inputStep w s = .next t ↔ ∃ i, decode w = .instr i ∧ i.wellFormedIn .event = true ∧ exec i s = .next t := by
  unfold inputStep
  split
  · split <;> simp_all [refuseInput]
  · simp_all [refuseInput]

/-- Everything a step can do when it answers a next state. -/
theorem step_next {s t : State} :
    step s = .next t ↔
      s.stopped = false ∧
        ((s.nextMove = .seq ∧ s.fatal = true ∧ fatalBlink s.popMove = .next t) ∨
         (s.nextMove = .seq ∧ ∃ i, s.command = some i ∧ exec i s.popMove = .next t) ∨
         (∃ w i, s.nextMove = .input w ∧ decode w = .instr i ∧ i.wellFormedIn .event = true ∧
            exec i s.popMove = .next t)) := by
  unfold step machineStep
  rw [whenLive_next]
  refine and_congr_right fun _ => ?_
  cases h : s.nextMove with
  | seq => simp [moveStep, seqStep_next]
  | input w => simp [moveStep, inputStep_next]

/-- SEQ is at the same command as long as the ROM, `upc` and `fatal` are the same. -/
theorem command_congr {s t : State} (h1 : t.rom = s.rom) (h2 : t.upc = s.upc) (h3 : t.fatal = s.fatal) :
    t.command = s.command := by
  simp [State.command, State.fetched, h1, h2, h3]

theorem relaying_congr {s t : State} {e : Ep} (h : t.command = s.command) : t.relaying e = s.relaying e := by
  simp [State.relaying, h]

theorem inRelay_congr {s t : State} {e : Ep} (h : t.command = s.command) (hp : t.ph = s.ph) :
    t.inRelay e = s.inRelay e := by
  simp [State.inRelay, relaying_congr h, hp]

/-- SEQ is relaying `x` exactly when its command is a relay of `x`. -/
theorem relaying_of_command {s : State} {e : Ep} {sw : Bool} (h : s.command = some (.relay e sw)) (x : Ep) :
    s.relaying x = decide (e = x) := by
  simp only [State.relaying, h]
  rfl

/-- A property every kind of step keeps is kept by `step`: the four kinds are the taking of a move, a fatal blink, a phase of
SEQ's command, and an event. -/
theorem step_keeps (P : State → Prop) (hpop : ∀ s, P s → P s.popMove) (hblink : ∀ s, s.fatal = true → P s → P s.blink)
    (hcmd : ∀ s t i, P s → s.command = some i → exec i s = .next t → P t)
    (hev : ∀ s t i, P s → i.wellFormedIn .event = true → exec i s = .next t → P t) {s t : State} (hs : P s)
    (h : step s = .next t) : P t := by
  obtain ⟨-, h⟩ := step_next.1 h
  rcases h with ⟨-, hf, h⟩ | ⟨-, i, hc, h⟩ | ⟨w, i, -, -, he, h⟩
  · rcases fatalBlink_next.1 h with ⟨-, rfl⟩ | ⟨-, rfl⟩
    · exact hblink _ (by simpa using hf) (hpop s hs)
    · exact hpop s hs
  · exact hcmd _ _ i (hpop s hs) (by simpa using hc) h
  · exact hev _ _ i (hpop s hs) he h

theorem step_stopped {s : State} (h : s.stopped = true) : step s = .fault .runEnded := by
  unfold step machineStep
  exact whenLive_of_stopped h

end Sys2Proof.Machine
end

