-- ==== Sys2Proof/Machine/Assembly.lean ====
section
/-! DEFINITION. The notation of programs and scripts (30_encoding.md R114 to R116): how a command and an event are written,
what a source program assembles to, and which moves a script stands for. Reading characters, white space and `;` comments
is left to the reader of the text; a program here is a list of its lines. -/

namespace Sys2Proof.Machine

/-- `e` is written `A` or `B`. -/
def epText : Ep → String
  | .A => "A"
  | .B => "B"

/-- `d` is written `RX` or `TX`. -/
def dirText : Dir → String
  | .receive => "RX"
  | .transmit => "TX"

/-- One hexadecimal digit. -/
def hexDigit (d : BitVec 4) : String :=
  ["0", "1", "2", "3", "4", "5", "6", "7", "8", "9", "A", "B", "C", "D", "E", "F"].getD d.toNat ""

/-- A byte as the scripts write it, such as `0x41`. -/
def byteText (b : Byte) : String := "0x" ++ hexDigit (b.extractLsb' 4 4) ++ hexDigit (b.extractLsb' 0 4)

/-- A command as R114 writes it, an event as R115 does. An address is a number from 0 to 255, written in hexadecimal here
(DESIGN CHOICE, log 21). -/
def instrText : Instr → String
  | .init => "INIT"
  | .arm e => "ARM " ++ epText e
  | .setdir d => "SETDIR " ++ dirText d
  | .relay e sw => "RELAY " ++ epText e ++ ", " ++ (if sw then "1" else "0")
  | .hbeat => "HBEAT"
  | .jmp a => "JMP " ++ byteText a
  | .rxc e b => "@RXC " ++ epText e ++ ", " ++ byteText b
  | .tick => "@TICK"
  | .txdone r => "@TXDONE " ++ (if r then "OK" else "TIMEOUT")
  | .initdone r => "@INITDONE " ++ (if r then "OK" else "FAIL")
  | .reset => "@RESET"

/-- The operand `a` of a jump: a number, a label, or `.` for the command's own address (R114). -/
inductive AsmTarget where
  | num (a : Addr)
  | label (name : String)
  | here
  deriving DecidableEq, Repr

/-- A command of a source program; the last four are the pseudo-instructions of R116. -/
inductive AsmCommand where
  | init
  | arm (e : Ep)
  | setdir (d : Dir)
  | relay (e : Ep) (sw : Bool)
  | hbeat
  | jmp (a : AsmTarget)
  | relayAB
  | relayBA
  | loop (a : AsmTarget)
  | halt
  deriving DecidableEq, Repr

/-- One line: an optional label and a command. -/
structure AsmLine where
  label : Option String
  command : AsmCommand
  deriving DecidableEq, Repr

/-- The address of the first line that carries `name`, `n` being the address of the first line of the list. R114 does not say
what a label that two lines carry stands for: that the first line wins is a DESIGN CHOICE (log 21). -/
def labelAddr (name : String) : Nat → List AsmLine → Option Addr
  | _, [] => none
  | n, l :: ls => if l.label = some name then some (BitVec.ofNat 8 n) else labelAddr name (n + 1) ls

/-- The address a target stands for in the command at address `own` of `prog`; none for a label that no line carries
(DESIGN CHOICE, log 21). -/
def targetAddr (prog : List AsmLine) (own : Addr) : AsmTarget → Option Addr
  | .num a => some a
  | .label name => labelAddr name 0 prog
  | .here => some own

/-- The command a line stands for, pseudo-instructions expanded. -/
def expandLine (prog : List AsmLine) (own : Addr) : AsmCommand → Option Instr
  | .init => some .init
  | .arm e => some (.arm e)
  | .setdir d => some (.setdir d)
  | .relay e sw => some (.relay e sw)
  | .hbeat => some .hbeat
  | .jmp a => (targetAddr prog own a).map .jmp
  | .relayAB => some Sys2Proof.relayAB
  | .relayBA => some Sys2Proof.relayBA
  | .loop a => (targetAddr prog own a).map loopTo
  | .halt => some (haltAt own)

/-- The words of the lines that stand from address `n` on. -/
def assembleFrom (prog : List AsmLine) : Nat → List AsmLine → Option (List Word)
  | _, [] => some []
  | n, l :: ls =>
    match expandLine prog (BitVec.ofNat 8 n) l.command, assembleFrom prog (n + 1) ls with
    | some i, some ws => some (encode i :: ws)
    | _, _ => none

/-- The words of a program from address 0x00; none where it names a label that no line carries or does not fit the ROM
(DESIGN CHOICE, log 21). -/
def assemble (prog : List AsmLine) : Option (List Word) :=
  if prog.length ≤ Config.romDepth then assembleFrom prog 0 prog else none

/-- The ROM that holds `ws` from address 0x00 and the filler 0xFFFF everywhere else (R109; log 17). -/
def romOf (ws : List Word) : Memory :=
  (List.range Config.romDepth).foldl (fun m a => setRomWord m (BitVec.ofNat 8 a) (ws.getD a 0xFFFF)) []

/-- The source of the reference ROM (42_bridge_sequencer.md R190). -/
def referenceSource : List AsmLine :=
  [⟨none, .init⟩, ⟨none, .arm .A⟩, ⟨none, .arm .B⟩, ⟨some "loop", .relayAB⟩, ⟨none, .relayBA⟩, ⟨none, .hbeat⟩,
   ⟨none, .jmp (.label "loop")⟩]

/-- One line of an event script: `S xN`, an event `@X`, or `@TICK xN` (R115). -/
inductive ScriptLine where
  | s (n : Nat)
  | event (i : Instr)
  | ticks (n : Nat)
  deriving DecidableEq, Repr

/-- The moves a line stands for. -/
def lineMoves : ScriptLine → List Move
  | .s n => seqMoves n
  | .event i => [i.offer]
  | .ticks n => tickMoves n

/-- The schedule a script stands for. -/
def scriptMoves (ls : List ScriptLine) : List Move := ls.flatMap lineMoves

/-- Some move of the schedule is not enabled when its turn comes: an error in the schedule, not a step (R115; log 7, 8). -/
def scheduleError : List Move → State → Bool
  | [], _ => false
  | m :: ms, s => !moveEnabled m s || scheduleError ms (afterOutcome s (moveStep m s))

end Sys2Proof.Machine
end

