-- ==== Sys2Proof/Tests/Slice0.lean ====
section
/-! SUPPORT. Tests with results taken from spec/95_test_vectors.md and the rules, and for each statement of
Certificates/Slice0/Obligations.lean that has hypotheses a state that meets them, at the values where its clauses meet. -/

open Sys2Proof Sys2Proof.Machine Sys2Proof.Safety Sys2Proof.Claims

namespace Sys2Proof.Tests

/-- The next state of an outcome. -/
def next? : Result → Option State
  | .next t => some t
  | _ => none

/-- The fault of an outcome. -/
def fault? : Result → Option Fault
  | .fault f => some f
  | _ => none

/-- The refusal of an outcome. -/
def refusal? : Result → Option Refusal
  | .refused r => some r
  | _ => none

/-- SEQ at phase `p` of the word `w` at address `a`, one SEQ move to come. -/
def stateAt (a : Addr) (w : Word) (p : Phase) : State :=
  { State.reset with rom := setRomWord [] a w, upc := a, ph := p, schedule := [.seq] }

/-- The state with one event word to come. -/
def offering (s : State) (w : Word) : State := { s with schedule := [.input w] }

/-- An endpoint with these four registers. -/
def endpoint (rx tx : Byte) (flag armed : Bool) : Endpoint := { rxSlot := rx, txSlot := tx, flag := flag, armed := armed }

/-! ## Well-formedness, decoding, encoding -/

theorem test_event_is_no_command : Instr.wellFormedIn .command .tick = false := by decide

theorem test_command_is_no_event : Instr.wellFormedIn .event (.arm .A) = false := by decide

theorem test_command_is_a_command : Instr.wellFormedIn .command (.relay .B true) = true := by decide

theorem test_decode_sequencer : [(0x0000 : Word), 0x4000, 0x5000, 0x5003, 0x50FF].map decode =
    [.instr .init, .instr .hbeat, .instr (.jmp 0), .instr (.jmp 3), .instr (.jmp 255)] := by decide

theorem test_decode_channel : [(0x1000 : Word), 0x1800, 0x3000, 0x3400, 0x3800, 0x3C00].map decode =
    [.instr (.arm .A), .instr (.arm .B), .instr (.relay .A false), .instr (.relay .A true), .instr (.relay .B false),
     .instr (.relay .B true)] := by decide

theorem test_decode_direction : [(0x2000 : Word), 0x2400].map decode =
    [.instr (.setdir .receive), .instr (.setdir .transmit)] := by decide

theorem test_decode_events : [(0x8041 : Word), 0x885A, 0x88FF, 0x9000, 0xA000, 0xA400, 0xB000, 0xB400, 0xC000].map decode =
    [.instr (.rxc .A 0x41), .instr (.rxc .B 0x5A), .instr (.rxc .B 0xFF), .instr .tick, .instr (.txdone false),
     .instr (.txdone true), .instr (.initdone false), .instr (.initdone true), .instr .reset] := by decide

theorem test_decode_illegal :
    [(0x0001 : Word), 0x1001, 0x1400, 0x2800, 0x3100, 0x40FF, 0x5800, 0x8C41, 0x9001, 0xA800].map decode =
      List.replicate 10 (.illegal .mustBeZero) ∧
    [(0x6000 : Word), 0x7FFF, 0xD000, 0xFFFF].map decode = List.replicate 4 (.illegal .reservedOp) := by decide

theorem test_table_word : decodeTableWord 16 0x885A = some (.rxc .B 0x5A) ∧ decodeTableWord 16 0x6000 = none := by decide

theorem test_mnemonics : [Instr.relay .A true, .txdone true].map Instr.mnemonic = ["RELAY", "TXDONE"] := by decide

theorem test_reference_source_assembles : assemble referenceSource = some referenceWords := by decide

theorem test_missing_label_is_no_program : assemble [⟨none, .jmp (.label "loop")⟩] = none := by decide

theorem test_text_of_commands : instrText (.relay .B false) = "RELAY B, 0" ∧ instrText (.rxc .A 0x41) = "@RXC A, 0x41" := by
  decide

theorem test_bare_s_in_a_hold_is_a_schedule_error :
    scheduleError (scriptMoves [.s 2]) State.reset = true ∧
    scheduleError (scriptMoves [.s 1, .event (.initdone true), .s 1]) State.reset = false := by decide

theorem test_channel_codes : [ChState.unarmed, .idle, .flagSet, .relaying].map ChState.code = [0, 1, 2, 3] := by decide

/-! ## One step of each instruction (95_test_vectors.md section 2) -/

/-- V-SEQ-1. -/
theorem test_init_requests : next? (step (stateAt 0 0x0000 0)) =
    some { stateAt 0 0x0000 1 with initPend := true, trace := [.initReq], schedule := [] } := by decide

/-- V-SEQ-6. -/
theorem test_init_fails : next? (step (stateAt 0 0x0000 1)) =
    some { stateAt 0 0x0000 1 with fatal := true, trace := [.fatal], schedule := [] } := by decide

/-- V-ARM-1. -/
theorem test_arm : (next? (step (stateAt 1 0x1000 0))).map (fun t => (t.epA.armed, t.epB.armed, t.upc, t.trace)) =
    some (true, false, 2, [.arm .A]) := by decide

/-- V-ARM-3. -/
theorem test_arm_pending : fault? (step { stateAt 7 0x1800 0 with epB := endpoint 0 0 true false }) =
    some (.armPending 7 0x1800) := by decide

/-- V-DIR-1. -/
theorem test_setdir : (next? (step { stateAt 9 0x2400 0 with now := 5 })).map
    (fun t => (t.de, t.dirT0, t.ph, t.upc, t.trace)) = some (.transmit, 5, 1, 9, [.de .transmit]) := by decide

/-- V-DIR-7 and V-DIR-8. -/
theorem test_setdir_settles_over_the_wrap :
    ((next? (step { stateAt 9 0x2400 1 with dirT0 := 0xFFFFFFFF, now := 1 })).map (·.upc)) = some 10 ∧
    ((next? (step { stateAt 9 0x2400 1 with dirT0 := 0xFFFFFFFF, now := 0 })).map (·.upc)) = some 9 := by decide

/-- V-REL-3. -/
theorem test_relay_clears : (next? (step { stateAt 3 0x3400 1 with epA := endpoint 0x41 0 true false })).map
    (fun t => (t.epA, t.epB, t.ph)) = some (endpoint 0x41 0 false false, endpoint 0 0x41 false false, 2) := by decide

/-- V-REL-9. -/
theorem test_relay_requests : (next? (step { stateAt 3 0x3400 4 with de := .transmit, epB := endpoint 0 0x41 false false, now := 2 })).map
    (fun t => (t.txPend, t.txT0, t.ph, t.trace)) = some (true, 2, 5, [.txReq .B 0x41]) := by decide

/-- V-HB-3. -/
theorem test_hbeat : (next? (step { stateAt 5 0x4000 0 with hbLast := 0xFFFFFF00, now := 0x2E8, led := true })).map
    (fun t => (t.led, t.hbLast, t.upc, t.trace)) = some (false, 0x2E8, 6, [.led false]) := by decide

/-- V-HB-4 and V-NEXT-1. -/
theorem test_hbeat_early : (next? (step { stateAt 0xFF 0x4000 0 with hbLast := 0xFFFFFF00, now := 0x2E7 })).map
    (fun t => (t.led, t.hbLast, t.upc, t.trace)) = some (false, 0xFFFFFF00, 0, []) := by decide

/-- V-JMP-1. -/
theorem test_jmp : (next? (step (stateAt 6 0x5003 0))).map (fun t => (t.upc, t.ph)) = some (3, 0) := by decide

/-- V-JMP-2: the own address. -/
theorem test_jmp_self : next? (step (stateAt 0x20 0x5020 0)) = some { stateAt 0x20 0x5020 0 with schedule := [] } := by decide

/-- V-RX-3. -/
theorem test_rxc : (next? (step (offering { State.reset with epB := endpoint 1 2 false true } 0x88FF))).map
    (fun t => (t.epB, t.trace)) = some (endpoint 0xFF 2 true false, [.rx .B 0xFF]) := by decide

/-- V-RX-4. -/
theorem test_rxc_drops : (next? (step (offering { State.reset with epA := endpoint 0x41 0 true false } 0x8042))).map
    (fun t => (t.epA, t.trace)) = some (endpoint 0x41 0 true false, [.drop .A 0x42]) := by decide

/-- V-TICK-1 and V-TICK-2. -/
theorem test_tick : ((next? (step (offering { State.reset with now := 41 } 0x9000))).map (·.now)) = some 42 ∧
    ((next? (step (offering { State.reset with now := 0xFFFFFFFF } 0x9000))).map (·.now)) = some 0 := by decide

/-- V-TX-1. -/
theorem test_txdone : (next? (step (offering { State.reset with txPend := true } 0xA400))).map
    (fun t => (t.txPend, t.txres, t.trace)) = some (false, true, [.txRes true]) := by decide

/-- V-TX-2 meets duty TXD2 and V-TX-5 does not. -/
theorem test_txd2 : txd2 { State.reset with txT0 := 2, now := 1002 } false = true ∧
    txd2 { State.reset with txT0 := 2, now := 1001 } false = false := by decide

/-- V-SEQ-4. -/
theorem test_initdone : (next? (step (offering { State.reset with initPend := true, initOk := true } 0xB000))).map
    (fun t => (t.initPend, t.initOk, t.trace)) = some (false, false, [.initRes false]) := by decide

/-- V-SEQ-7 and V-TX-4: not enabled. -/
theorem test_unrequested_answers : eventEnabled (.initdone true) State.reset = false ∧
    eventEnabled (.txdone false) State.reset = false := by decide

/-- V-RST-3. -/
theorem test_reset : next? (step (offering { State.reset with txPend := true, ph := 5, upc := 3, led := true, de := .transmit } 0xC000)) =
    some { State.reset with trace := [.rst] } := by decide

/-- V-FLT-2. -/
theorem test_reset_after_a_fault : fault? (step (offering { State.reset with faults := [⟨1, 3, 0x3400⟩] } 0xC000)) =
    some .runEnded := by decide

/-- V-FAT-1 and V-FAT-2, and V-FAT-4: the word at `upc` is a reserved one. -/
theorem test_fatal_blink :
    ((next? (step { stateAt 0 0xFFFF 1 with fatal := true, now := 99, params := { Params.default with fatalBlink := some 100 } })).map
      fun t => (t.led, t.hbLast)) = some (false, 0) ∧
    ((next? (step { stateAt 0 0xFFFF 1 with fatal := true, now := 100, params := { Params.default with fatalBlink := some 100 } })).map
      fun t => (t.led, t.hbLast)) = some (true, 100) := by decide

/-- V-DEC-1 and V-DEC-2. -/
theorem test_wrong_class_is_refused :
    refusal? (step (stateAt 0x10 0x8041 0)) = some (.illegalWord (.rom 0x10) 0x8041) ∧
    refusal? (step (offering State.reset 0x3400)) = some (.illegalWord .input 0x3400) := by decide

/-- V-DIR-4: the record of the fault. -/
theorem test_fault_record :
    afterOutcome { stateAt 8 0x2400 0 with de := .transmit } (step { stateAt 8 0x2400 0 with de := .transmit }) =
      { stateAt 8 0x2400 0 with de := .transmit, faults := [⟨1, 8, 0x2400⟩] } := by decide

/-- A refusal sets the mark and nothing else. -/
theorem test_refusal_mark : afterOutcome (stateAt 0 0x6000 0) (step (stateAt 0 0x6000 0)) =
    { stateAt 0 0x6000 0 with refusedMark := true } := by decide

theorem test_fetch_word_runs : next? (step (State.reset.withFetchWord 16 0x5003)) =
    some { State.reset with rom := setRomWord [] 0 0x5003, upc := 3 } := by decide

theorem test_fetch_word_offers : next? (step (State.reset.withFetchWord 16 0x9000)) =
    some { State.reset with now := 1 } := by decide

/-! ## States that meet the hypotheses of the statements -/

/-- Some outcome is a next state with property `p`. -/
def answers (o : Result) (p : State → Bool) : Bool := (next? o).any p

/-- What `answers` says. -/
theorem answers_next {o : Result} {p : State → Bool} (h : answers o p = true) : ∃ t, o = .next t ∧ p t = true := by
  cases o <;> simp_all [answers, next?]

/-- The reference ROM in the middle of `RELAY A, 1`: endpoint A's byte is in flight to B, and B is armed. -/
def midRelay : State :=
  { State.reset with
    upc := 3
    ph := 5
    de := .transmit
    epA := endpoint 0x41 0 false false
    epB := endpoint 0 0x41 false true
    now := 2
    txPend := true
    txT0 := 2
    initOk := true
    schedule := [.input 0xA400] }

/-- The reference ROM about to run phase `p` of the command at `a`, endpoint A holding an unread byte. -/
def flagged (a : Addr) (p : Phase) : State :=
  { State.reset with upc := a, ph := p, epA := endpoint 0x41 0 true false, schedule := [.seq] }

theorem midRelay_command : midRelay.command = some (.relay .A true) := by decide

theorem midRelay_channelInv : ChannelInv midRelay := by
  intro e
  cases e <;> decide

theorem midRelay_byteInv : ByteInv midRelay := by
  intro e
  cases e <;> decide

theorem midRelay_flightInv : FlightInv midRelay := fun _ => ⟨.A, true, by decide, by decide, fun _ => by decide⟩

theorem midRelay_phaseInv : PhaseInv midRelay := by
  intro i h
  rw [midRelay_command, Option.some.injEq] at h
  subst h
  decide

theorem midRelay_referenceInv : ReferenceInv midRelay :=
  ⟨by decide, by decide, midRelay_phaseInv, by decide, by decide, by decide, by decide, by decide⟩

theorem flagged_channelInv (p : Phase) (h : p = 0 ∨ p = 1) : ChannelInv (flagged 3 p) := by
  rcases h with rfl | rfl <;> intro e <;> cases e <;> decide

theorem test_meets_EncodeOfDecode : decode 0x50FF = .instr (.jmp 0xFF) := by decide

theorem test_meets_OpFieldTellsTheClass : decode 0x5000 = .instr (.jmp 0) ∧ decode 0x8000 = .instr (.rxc .A 0) := by decide

theorem test_meets_SeqMoveRunsTheFetchedCommand :
    (flagged 3 0).stopped = false ∧ (flagged 3 0).nextMove = .seq ∧ (flagged 3 0).fatal = false ∧
    decode (romWord (flagged 3 0).rom (flagged 3 0).upc) = .instr (.relay .A true) ∧
    Instr.wellFormedIn .command (.relay .A true) = true := by decide

theorem test_meets_InputMoveRunsTheEvent :
    midRelay.stopped = false ∧ midRelay.nextMove = .input 0xA400 ∧ decode 0xA400 = .instr (.txdone true) ∧
    Instr.wellFormedIn .event (.txdone true) = true := by decide

theorem test_meets_MovesComeFromTheScheduleThenFreely :
    midRelay.schedule = .input 0xA400 :: [] ∧ State.reset.schedule = [] := by decide

/-- The four ways, the classes at the words where they meet. -/
theorem test_meets_WrongOrIllegalWordsAreRefused :
    ((stateAt 0x10 0x8000 0).stopped = false ∧ (stateAt 0x10 0x8000 0).nextMove = .seq ∧
      (stateAt 0x10 0x8000 0).fatal = false ∧ 0x8000 ≤ (romWord (stateAt 0x10 0x8000 0).rom 0x10).toNat) ∧
    ((stateAt 0x10 0x7FFF 0).stopped = false ∧ (stateAt 0x10 0x7FFF 0).nextMove = .seq ∧
      (stateAt 0x10 0x7FFF 0).fatal = false ∧ decode (romWord (stateAt 0x10 0x7FFF 0).rom 0x10) = .illegal .reservedOp) ∧
    ((offering State.reset 0x5000).stopped = false ∧ (offering State.reset 0x5000).nextMove = .input 0x5000 ∧
      (0x5000 : Word).toNat < 0x8000) ∧
    ((offering State.reset 0x9001).stopped = false ∧ (offering State.reset 0x9001).nextMove = .input 0x9001 ∧
      decode 0x9001 = .illegal .mustBeZero) := by decide

theorem test_meets_AnEndedRunHasNoStep :
    answers (step midRelay) (fun _ => true) = true ∧
    ({ midRelay with faults := [⟨3, 1, 0x1000⟩] } : State).faults ≠ [] ∧
    ({ midRelay with refusedMark := true } : State).refusedMark = true := by decide

/-- One state for each code. -/
theorem test_meets_AFaultWritesOnlyTheRecord :
    ((flagged 1 0).stopped = false ∧ fault? (step (flagged 1 0)) = some (.armPending 1 0x1000)) ∧
    (({ flagged 3 2 with de := .transmit } : State).stopped = false ∧
      fault? (step { flagged 3 2 with de := .transmit }) = some (.nestedDir 3 0x3400)) ∧
    ((stateAt 3 0x3000 4).stopped = false ∧ fault? (step (stateAt 3 0x3000 4)) = some (.busUndriven 3 0x3000)) := by decide

theorem test_meets_FaultsAreExactlyTheListedBreaches :
    fault? (exec (.setdir .transmit) { State.reset with de := .transmit }) = some (.nestedDir 0 0) ∧
    fault? (exec (.relay .A true) { flagged 3 2 with de := .transmit }) = some (.nestedDir 3 0x3400) ∧
    fault? (exec (.relay .B false) { flagged 4 2 with de := .transmit }) = some (.nestedDir 4 0x3800) ∧
    fault? (exec (.relay .A false) (flagged 3 4)) = some (.busUndriven 3 0x3400) ∧
    fault? (exec (.arm .A) (flagged 1 0)) = some (.armPending 1 0x1000) ∧
    fault? (exec .tick { State.reset with refusedMark := true }) = some .runEnded := by decide

/-- The first unlisted phase of each command. -/
theorem test_meets_BadPhasesAreExactlyTheUnlistedOnes :
    refusal? (exec .init (flagged 0 2)) = some (.badPhase 0 2) ∧
    refusal? (exec (.arm .B) (flagged 2 1)) = some (.badPhase 2 1) ∧
    refusal? (exec (.setdir .receive) (flagged 2 2)) = some (.badPhase 2 2) ∧
    refusal? (exec (.relay .A true) (flagged 3 10)) = some (.badPhase 3 10) ∧
    refusal? (exec .hbeat (flagged 5 1)) = some (.badPhase 5 1) ∧
    refusal? (exec (.jmp 3) (flagged 6 1)) = some (.badPhase 6 1) := by decide

theorem test_meets_ResetValues : answers (exec .reset midRelay) (fun _ => true) = true := by decide

theorem test_meets_InitRequestsInitialisation : State.reset.ph = 0 := by decide

/-- Its three branches: held, V-SEQ-5, failed. -/
theorem test_meets_InitWaitsThenBootsOrDies :
    (stateAt 0 0 1).ph = 1 ∧
    answers (exec .init { stateAt 0 0 1 with initPend := true }) (fun t => t.ph = 1 && !t.fatal) = true ∧
    answers (exec .init { stateAt 0 0 1 with initOk := true }) (fun t => t.upc = 1 && t.ph = 0) = true ∧
    answers (exec .init (stateAt 0 0 1)) (fun t => t.fatal) = true := by decide

/-- Flagged, armed (V-ARM-2), unarmed. -/
theorem test_meets_ArmArmsOnce :
    ((flagged 1 0).ph = 0 ∧ (flagged 1 0).flag .A = true) ∧
    (({ midRelay with ph := 0 } : State).ph = 0 ∧ ({ midRelay with ph := 0 } : State).flag .B = false ∧
      ({ midRelay with ph := 0 } : State).armed .B = true) ∧
    (State.reset.ph = 0 ∧ State.reset.flag .B = false ∧ State.reset.armed .B = false) := by decide

/-- V-DIR-4, V-DIR-6 and V-DIR-1. -/
theorem test_meets_SetdirWritesTheDirection :
    (({ State.reset with de := .transmit } : State).ph = 0 ∧ ({ State.reset with de := .transmit } : State).de = .transmit) ∧
    (State.reset.ph = 0 ∧ State.reset.de = .receive) := by decide

/-- V-DIR-2, V-DIR-3, V-DIR-9 and V-DIR-10. -/
theorem test_meets_SetdirSettles :
    answers (exec (.setdir .transmit) { stateAt 9 0x2400 1 with dirT0 := 5, now := 6 }) (fun t => t.ph = 1) = true ∧
    answers (exec (.setdir .transmit) { stateAt 9 0x2400 1 with dirT0 := 5, now := 7 }) (fun t => t.ph = 0) = true ∧
    answers (exec (.setdir .transmit)
      { stateAt 9 0x2400 1 with dirT0 := 5, now := 5, params := { Params.default with settleTicks := 0 } })
      (fun t => t.ph = 1) = true ∧
    answers (exec (.setdir .transmit)
      { stateAt 9 0x2400 1 with dirT0 := 5, now := 6, params := { Params.default with settleTicks := 0 } })
      (fun t => t.ph = 0) = true := by decide

/-- V-REL-1 and V-REL-2. -/
theorem test_meets_RelayChecksTheFlag :
    answers (exec (.relay .B false) (flagged 4 0)) (fun t => t.upc = 5 && t.ph = 0) = true ∧
    answers (exec (.relay .A true) (flagged 3 0)) (fun t => t.upc = 3 && t.ph = 1) = true := by decide

theorem test_meets_RelayClearsAndCopies : (flagged 3 1).ph = 1 := by decide

/-- V-REL-6, V-REL-5 and V-REL-16. -/
theorem test_meets_RelaySwitchesTheDirection :
    (({ midRelay with ph := 2 } : State).ph = 2 ∧ ({ midRelay with ph := 2 } : State).de = .transmit) ∧
    ((flagged 3 2).ph = 2 ∧ (flagged 3 2).de = .receive) ∧ ({ midRelay with ph := 6 } : State).ph = 6 := by decide

/-- V-REL-7, V-REL-8, V-REL-17 and V-REL-18. -/
theorem test_meets_RelaySettles :
    answers (exec (.relay .A true) { flagged 3 3 with now := 1 }) (fun t => t.ph = 3) = true ∧
    answers (exec (.relay .A true) { flagged 3 3 with now := 2 }) (fun t => t.ph = 4) = true ∧
    answers (exec (.relay .A true) { flagged 3 7 with dirT0 := 2, now := 3 }) (fun t => t.ph = 7) = true ∧
    answers (exec (.relay .A true) { flagged 3 7 with dirT0 := 2, now := 4 }) (fun t => t.ph = 8) = true := by decide

/-- V-REL-10, V-REL-11 (no direction check for target A) and V-REL-9. -/
theorem test_meets_RelayRequestsTheTransmit :
    ((flagged 3 4).ph = 4 ∧ otherEp .A = .B ∧ (flagged 3 4).de = .receive) ∧
    ((flagged 4 4).ph = 4 ∧ ¬ (otherEp .B = .B ∧ (flagged 4 4).de = .receive)) ∧
    (({ midRelay with ph := 4 } : State).ph = 4 ∧ ¬ (otherEp .A = .B ∧ ({ midRelay with ph := 4 } : State).de = .receive)) := by
  decide

/-- V-REL-13, V-REL-14 and V-REL-15. -/
theorem test_meets_RelayWaitsForTheAnswer :
    answers (exec (.relay .A true) midRelay) (fun t => t.ph = 5) = true ∧
    answers (exec (.relay .A true) { midRelay with txPend := false }) (fun t => t.ph = 6) = true ∧
    answers (exec (.relay .B false) { midRelay with txPend := false }) (fun t => t.ph = 8) = true := by decide

theorem test_meets_RelayRearms : ({ midRelay with ph := 8 } : State).ph = 8 := by decide

/-- V-REL-20, V-REL-21 and V-REL-22. -/
theorem test_meets_RelayTogglesTheIndicator :
    answers (exec (.relay .A true) { flagged 3 9 with txres := true }) (fun t => t.led && t.upc = 4) = true ∧
    answers (exec (.relay .A true) (flagged 3 9)) (fun t => !t.led && t.upc = 4) = true ∧
    answers (exec (.relay .A true) { flagged 3 9 with params := { Params.default with toggleOnTimeout := true } })
      (fun t => t.led && t.upc = 4) = true := by decide

/-- V-HB-1 and V-HB-2. -/
theorem test_meets_HeartbeatToggles :
    answers (exec .hbeat { flagged 5 0 with now := 999 }) (fun t => !t.led && t.hbLast = 0) = true ∧
    answers (exec .hbeat { flagged 5 0 with now := 1000 }) (fun t => t.led && t.hbLast = 1000) = true := by decide

theorem test_meets_JumpSetsTheAddress : (flagged 6 0).ph = 0 := by decide

theorem test_meets_ReceiveTakesOrDrops :
    midRelay.stopped = false ∧ midRelay.armed .B = true ∧ midRelay.armed .A = false := by decide

theorem test_meets_TickAdvancesTime : State.reset.stopped = false := by decide

theorem test_meets_TransmitIsAnswered : midRelay.stopped = false ∧ midRelay.txPend = true := by decide

theorem test_meets_InitialisationIsAnswered :
    ({ State.reset with initPend := true } : State).stopped = false ∧
    ({ State.reset with initPend := true } : State).initPend = true := by decide

theorem test_meets_ResetRestoresEveryRegister : midRelay.stopped = false ∧
    ({ midRelay with refusedMark := true } : State).stopped = true := by decide

theorem test_meets_FatalStateOnlyBlinks :
    ({ stateAt 0 0 1 with fatal := true } : State).stopped = false ∧
    ({ stateAt 0 0 1 with fatal := true } : State).nextMove = .seq ∧
    ({ stateAt 0 0 1 with fatal := true } : State).fatal = true := by decide

/-- The default, and the smallest period that leaves a blink period. -/
theorem test_meets_OpenBlinkPeriodMeetsItsBound :
    (Params.default.fatalBlink = none ∧ 2 ≤ Params.default.hbPeriod.toNat) ∧
    (({ Params.default with hbPeriod := 2 } : Params).fatalBlink = none ∧ 2 ≤ (2 : Tick).toNat) := by decide

/-- A hold (V-REL-13), and V-TX-4 and V-SEQ-7. -/
theorem test_meets_DisabledMovesChangeNothing :
    [{ midRelay with schedule := [.seq] }, offering State.reset 0xA000, offering State.reset 0xB400].all
      (fun s => !s.stopped && s.nextMove.legal && !moveEnabled s.nextMove s) = true := by decide

theorem test_meets_NoInstructionWritesRomOrParameters : answers (exec (.txdone true) midRelay) (fun _ => true) = true := by
  decide

theorem test_meets_EveryStepKeepsTheRom :
    Memory.wf (stateAt 7 0x5007 0).rom = true ∧ answers (step (stateAt 7 0x5007 0)) (fun _ => true) = true := by decide

/-- The first and the last address. -/
theorem test_meets_PlacedWordIsReadBack :
    Memory.wf (setRomWord (setRomWord [] 0 0x5000) 0xFF 0x4000) = true ∧ Memory.wf [] = true := by decide

/-- One instruction for each register. -/
theorem test_meets_RegistersHaveTheirListedWriters :
    answers (exec (.setdir .transmit) { State.reset with now := 7 }) (fun t => t.de != .receive && t.dirT0 != 0) = true ∧
    answers (exec (.rxc .B 0x99) midRelay) (fun t => t.rxSlot .B != 0 && t.flag .B && !t.armed .B) = true ∧
    answers (exec (.relay .A true) (flagged 3 1)) (fun t => t.txSlot .B != 0 && !t.flag .A && t.ph != 1) = true ∧
    answers (exec (.relay .A true) { flagged 3 8 with epA := endpoint 0 0 false false }) (fun t => t.armed .A) = true ∧
    answers (exec (.arm .B) State.reset) (fun t => t.armed .B && t.upc != 0) = true ∧
    answers (exec .tick State.reset) (fun t => t.now != 0) = true ∧
    answers (exec .hbeat { State.reset with now := 1000 }) (fun t => t.hbLast != 0 && t.led) = true ∧
    answers (exec (.relay .B false) { State.reset with ph := 9, txres := true }) (fun t => t.led) = true ∧
    answers (exec (.relay .B false) { State.reset with ph := 4, now := 3 }) (fun t => t.txPend && t.txT0 != 0) = true ∧
    answers (exec (.txdone true) midRelay) (fun t => !t.txPend && t.txres) = true ∧
    answers (exec .init State.reset) (fun t => t.initPend) = true ∧
    answers (exec (.initdone true) { State.reset with initPend := true }) (fun t => !t.initPend && t.initOk) = true ∧
    answers (exec .init { State.reset with ph := 1 }) (fun t => t.fatal) = true := by decide

theorem test_meets_EventsLeaveTheSequencerAlone :
    Instr.wellFormedIn .event (.rxc .B 0x99) = true ∧ answers (exec (.rxc .B 0x99) midRelay) (fun _ => true) = true := by decide

theorem test_meets_AStepEmitsAtMostOneEvent : answers (step midRelay) (fun _ => true) = true := by decide

/-- A change of `de`, one of `led`, a rise of an arm bit, and a fall of one by a byte and by a RESET. -/
theorem test_meets_OutputChangesShowInTheTrace :
    answers (step (stateAt 9 0x2400 0)) (fun t => t.de != .receive) = true ∧
    answers (step { stateAt 5 0x4000 0 with now := 1000 }) (fun t => t.led) = true ∧
    answers (step (stateAt 1 0x1000 0)) (fun t => t.armed .A && !(stateAt 1 0x1000 0).armed .A) = true ∧
    answers (step (offering midRelay 0x8899)) (fun t => !t.armed .B && midRelay.armed .B && t.trace == [.rx .B 0x99]) = true ∧
    answers (step (offering midRelay 0xC000)) (fun t => !t.armed .B && midRelay.armed .B && t.trace == [.rst]) = true := by
  decide

theorem test_meets_StrobesFollowTheRequests :
    answers (exec .init State.reset) (fun t => (outPorts State.reset t).initreq) = true ∧
    answers (exec (.relay .B false) (flagged 4 4)) (fun t => (outPorts (flagged 4 4) t).txreq == some (.A, 0)) = true := by
  decide

theorem test_meets_InterruptOrderChangesNoRegister : midRelay.stopped = false := by decide

/-- A byte on an endpoint that a test ROM armed before it failed, and a tick. -/
theorem test_meets_OnlyResetLeavesTheFatalState :
    answers (step (offering { midRelay with fatal := true } 0x8899)) (fun _ => true) = true ∧
    (offering { midRelay with fatal := true } 0x8899).nextMove ≠ .input 0xC000 := by decide

theorem test_meets_SettleLastsItsTicks :
    ({ midRelay with dirT0 := 2 } : State).stopped = false ∧
    ({ midRelay with dirT0 := 2 } : State).dirT0 = ({ midRelay with dirT0 := 2 } : State).now ∧ 2 < 2 ^ 32 := by decide

theorem test_meets_HeartbeatsAreAPeriodApart :
    ({ State.reset with now := 1000 } : State).stopped = false ∧ ({ State.reset with now := 1000 } : State).ph = 0 ∧
    ({ State.reset with now := 1000 } : State).heartbeatDue = true ∧
    answers (exec .hbeat { State.reset with now := 1000 }) (fun _ => true) = true ∧ 1000 < 2 ^ 32 := by decide

theorem test_meets_ChannelInvIsKept : ChannelInv midRelay ∧ ∃ t, step midRelay = .next t ∧ (!t.txPend) = true :=
  ⟨midRelay_channelInv, answers_next (by decide)⟩

theorem test_meets_ChannelInvAtReset : ChannelInv (flagged 3 1) ∧ (flagged 3 1).flag .A = true :=
  ⟨flagged_channelInv 1 (.inr rfl), by decide⟩

/-- Its three clauses: any step, a transmit request, a step with the flag set. -/
theorem test_meets_RelayedByteIsTheReceivedByte :
    (ChannelInv midRelay ∧ ByteInv midRelay ∧ ∃ t, step midRelay = .next t ∧ (!t.txPend) = true) ∧
    answers (step { midRelay with ph := 4, schedule := [.seq] }) (fun t => t.trace == [.txReq .B 0x41]) = true ∧
    (answers (step (flagged 3 0)) (fun _ => true) = true ∧ (flagged 3 0).flag .A = true) :=
  ⟨⟨midRelay_channelInv, midRelay_byteInv, answers_next (by decide)⟩, by decide, by decide⟩

theorem test_meets_FlightInvIsKept :
    FlightInv midRelay ∧ midRelay.txPend = true ∧ midRelay.nextMove ≠ .input 0xC000 ∧
    ∃ t, step midRelay = .next t ∧ (!t.txPend) = true :=
  ⟨midRelay_flightInv, by decide, by decide, answers_next (by decide)⟩

theorem test_meets_ListedPhasesAreKept : PhaseInv midRelay ∧ ∃ t, step midRelay = .next t ∧ (!t.txPend) = true :=
  ⟨midRelay_phaseInv, answers_next (by decide)⟩

theorem test_meets_ReferenceRomNeverFaults :
    ReferenceInv midRelay ∧ midRelay.stopped = false ∧ midRelay.nextMove.legal = true :=
  ⟨midRelay_referenceInv, by decide, by decide⟩

theorem test_meets_ChannelStatesExclude :
    ChannelInv midRelay ∧ chst midRelay .A = .relaying ∧ chst midRelay .B = .idle :=
  ⟨midRelay_channelInv, by decide, by decide⟩

/-- The start of the boot arms: endpoint A is unarmed. -/
def bootArm : State := { State.reset with upc := 1 }

/-- The relay of endpoint A about to re-arm it. -/
def rearming : State := { midRelay with ph := 8, txPend := false, de := .receive }

/-- One state for each clause. -/
theorem test_meets_ChannelTransitions :
    (ChannelInv midRelay ∧ answers (exec (.rxc .B 0x99) midRelay) (fun t => chst t .B = .flagSet) = true ∧
      answers (exec (.rxc .A 0x99) midRelay) (fun t => chst t .A = .relaying) = true) ∧
    (ChannelInv bootArm ∧ bootArm.command = some (.arm .A) ∧ chst bootArm .A = .unarmed ∧
      answers (exec (.arm .A) bootArm) (fun t => chst t .A = .idle) = true) ∧
    (ChannelInv (flagged 1 0) ∧ (flagged 1 0).command = some (.arm .A) ∧ (flagged 1 0).ph = 0 ∧
      chst (flagged 1 0) .A = .flagSet) ∧
    (ChannelInv (flagged 3 1) ∧ (flagged 3 1).command = some (.relay .A true) ∧ (flagged 3 1).ph = 1 ∧
      answers (exec (.relay .A true) (flagged 3 1)) (fun t => chst t .A = .relaying) = true) ∧
    (ChannelInv rearming ∧ rearming.command = some (.relay .A true) ∧ rearming.ph = 8 ∧
      answers (exec (.relay .A true) rearming) (fun t => chst t .A = .idle) = true) ∧
    answers (exec .reset midRelay) (fun t => chst t .B = .unarmed) = true := by
  refine ⟨⟨midRelay_channelInv, by decide⟩, ⟨?_, by decide⟩, ⟨?_, by decide⟩, ⟨flagged_channelInv 1 (.inr rfl), by decide⟩,
    ⟨?_, by decide⟩, by decide⟩ <;> intro e <;> cases e <;> decide

/-- `RELAY A, 1` of the reference ROM, its transmit to time out. -/
def relayAToTimeout : State := { flagged 3 0 with schedule := switchScript 2 false }

theorem test_meets_RelayWithSwitchCarriesTheByte :
    relayAToTimeout.stopped = false ∧ relayAToTimeout.command = some (.relay .A true) ∧ relayAToTimeout.ph = 0 ∧
    relayAToTimeout.flag .A = true ∧ relayAToTimeout.de = .receive ∧
    2 = relayAToTimeout.params.settleTicks.toNat + 1 ∧ 2 < 2 ^ 32 ∧
    relayAToTimeout.schedule = switchScript 2 false ++ [] := by decide

/-- `RELAY B, 0` of the reference ROM with an unread 0x5A. -/
def relayB : State :=
  { State.reset with upc := 4, epB := endpoint 0x5A 0 true false, schedule := plainScript true }

/-- `RELAY A, 0` of a test ROM that drives the bus beforehand (R158 item 2). -/
def relayADriven : State :=
  { stateAt 9 0x3000 0 with de := .transmit, epA := endpoint 0x41 0 true false, schedule := plainScript false }

theorem test_meets_RelayWithoutSwitchCarriesTheByte :
    (relayB.stopped = false ∧ relayB.command = some (.relay .B false) ∧ relayB.ph = 0 ∧ relayB.flag .B = true ∧
      ¬ (otherEp .B = .B ∧ relayB.de = .receive) ∧ relayB.schedule = plainScript true ++ []) ∧
    (relayADriven.stopped = false ∧ relayADriven.command = some (.relay .A false) ∧ relayADriven.ph = 0 ∧
      relayADriven.flag .A = true ∧ ¬ (otherEp .A = .B ∧ relayADriven.de = .receive) ∧
      relayADriven.schedule = plainScript false ++ []) := by decide

end Sys2Proof.Tests
end

/-! ### What the kinds of steps leave of the machine: the layer the invariants of the state stand on -/

namespace Sys2Proof.Machine

/-! #### Endpoints -/

@[simp] theorem State.setTxSlot_otherEp_ep (s : State) (e : Ep) (b : Byte) :
    (s.setTxSlot (otherEp e) b).ep e = s.ep e := by
  simpa [otherEp_otherEp] using State.setTxSlot_ep_other s (otherEp e) b

/-- The writers of the registers of endpoint `e` (10_state.md R32, R35 to R38), each with the record it leaves. -/
inductive EndpointWrite (i : Instr) (s : State) (e : Ep) : Endpoint → Prop
  | keep : EndpointWrite i s e (s.ep e)
  | take (b : Byte) (hi : i = .rxc e b) (ha : s.armed e = true) :
      EndpointWrite i s e { s.ep e with rxSlot := b, armed := false, flag := true }
  | clear (sw : Bool) (hi : i = .relay e sw) (hp : s.ph = 1) : EndpointWrite i s e { s.ep e with flag := false }
  | load (x : Ep) (sw : Bool) (he : e = otherEp x) (hi : i = .relay x sw) (hp : s.ph = 1) :
      EndpointWrite i s e { s.ep e with txSlot := s.rxSlot x }
  | arm (hi : i = .arm e) (hp : s.ph = 0) (hf : s.flag e = false) : EndpointWrite i s e { s.ep e with armed := true }
  | rearm (sw : Bool) (hi : i = .relay e sw) (hp : s.ph = 8) : EndpointWrite i s e { s.ep e with armed := true }
  | reset (hi : i = .reset) : EndpointWrite i s e Endpoint.reset

/-- Everything an effect can do to an endpoint. -/
theorem Effect.endpointWrite {i : Instr} {s t : State} (h : Effect i s t) (e : Ep) : EndpointWrite i s e (t.ep e) := by
  cases h with
  | armNew x hp hf =>
    rcases eq_or_eq_other x e with rfl | rfl
    · simpa using .arm rfl hp hf
    · simpa using .keep
  | clear x sw hp =>
    rcases eq_or_eq_other x e with rfl | rfl
    · simpa using .clear sw rfl hp
    · simpa using .load x sw rfl rfl hp
  | rearm x sw hp =>
    rcases eq_or_eq_other x e with rfl | rfl
    · simpa using .rearm sw rfl hp
    · simpa using .keep
  | take x b ha =>
    rcases eq_or_eq_other x e with rfl | rfl
    · simpa using .take b rfl ha
    · simpa using .keep
  | reset => simpa using .reset rfl
  | _ => simpa using .keep

/-- R_REARM is the one writer that could arm a flagged endpoint; the relay's own clause says that it does not. -/
theorem EndpointWrite.flag_excludes_arm {i : Instr} {s : State} {e : Ep} {v : Endpoint} (h : EndpointWrite i s e v)
    (hx : s.flag e = true → s.armed e = false) (h8 : ∀ sw, i = .relay e sw → s.ph = 8 → s.flag e = false) :
    v.flag = true → v.armed = false := by
  cases h with
  | keep | load => exact hx
  | take | clear | reset => simp [Endpoint.reset]
  | arm hi hp hf => exact fun hv => absurd (hf.symm.trans hv) (by simp)
  | rearm sw hi hp => exact fun hv => absurd ((h8 sw hi hp).symm.trans hv) (by simp)

/-! #### Steps that are neither a command's phase nor a RESET -/

/-- What an event other than RESET and the fatal blink leave alone (10_state.md R32, 60_exceptions.md R205, R216): SEQ, the
direction and the transmit slots; an endpoint stays as it is or takes a byte it was armed for. -/
structure Passive (s t : State) : Prop where
  rom : t.rom = s.rom
  upc : t.upc = s.upc
  ph : t.ph = s.ph
  fatal : t.fatal = s.fatal
  de : t.de = s.de
  txSlot : ∀ e, t.txSlot e = s.txSlot e
  endpoint : ∀ e, (t.flag e = s.flag e ∧ t.armed e = s.armed e) ∨
    (s.armed e = true ∧ t.flag e = true ∧ t.armed e = false)
  trace : ∃ es : List Obs, t.trace = s.trace ++ es ∧ ∀ o ∈ es, Claims.serves o = false

/-- A passive step that touches no endpoint. -/
theorem Passive.of_ep {s t : State} (es : List Obs) (hes : ∀ o ∈ es, Claims.serves o = false := by simp [Claims.serves])
    (htrace : t.trace = s.trace ++ es := by simp) (hep : ∀ e, t.ep e = s.ep e := by simp) (hrom : t.rom = s.rom := by simp)
    (hseq : t.upc = s.upc ∧ t.ph = s.ph ∧ t.fatal = s.fatal := by simp) (hde : t.de = s.de := by simp) : Passive s t :=
  { rom := hrom
    upc := hseq.1
    ph := hseq.2.1
    fatal := hseq.2.2
    de := hde
    txSlot := fun e => (views_of_ep (hep e)).2.2.2
    endpoint := fun e => .inl ⟨(views_of_ep (hep e)).1, (views_of_ep (hep e)).2.1⟩
    trace := ⟨es, htrace, hes⟩ }

theorem passive_refl (s : State) : Passive s s := .of_ep []

theorem passive_popMove (s : State) : Passive s s.popMove := .of_ep []

theorem passive_blink (s : State) : Passive s s.blink := .of_ep [.led (!s.led)]

theorem passive_takeReceive {s : State} {e : Ep} (b : Byte) (ha : s.armed e = true) : Passive s (takeReceive s e b) where
  rom := by simp
  upc := by simp
  ph := by simp
  fatal := by simp
  de := by simp
  txSlot x := by rcases eq_or_eq_other e x with rfl | rfl <;> simp [State.txSlot]
  endpoint x := by
    rcases eq_or_eq_other e x with rfl | rfl
    · exact .inr ⟨ha, by simp [State.flag, State.armed]⟩
    · exact .inl (by simp [State.flag, State.armed])
  trace := ⟨[.rx e b], by simp, by simp [Claims.serves]⟩

theorem Passive.trans {s t u : State} (h : Passive s t) (k : Passive t u) : Passive s u where
  rom := k.rom.trans h.rom
  upc := k.upc.trans h.upc
  ph := k.ph.trans h.ph
  fatal := k.fatal.trans h.fatal
  de := k.de.trans h.de
  txSlot e := (k.txSlot e).trans (h.txSlot e)
  endpoint e := by
    rcases k.endpoint e with ⟨hf, ha⟩ | ⟨ha, hu⟩
    · rw [hf, ha]
      exact h.endpoint e
    · rcases h.endpoint e with ⟨-, ha'⟩ | ⟨-, -, ha'⟩
      · exact .inr ⟨ha' ▸ ha, hu⟩
      · simp [ha] at ha'
  trace := by
    obtain ⟨es, hes, hs⟩ := h.trace
    obtain ⟨fs, hfs, ht⟩ := k.trace
    refine ⟨es ++ fs, by rw [hfs, hes, List.append_assoc], fun o ho => ?_⟩
    exact (List.mem_append.1 ho).elim (hs o) (ht o)

/-- Every event but RESET is passive. -/
theorem Effect.passive {i : Instr} {s t : State} (h : Effect i s t) (he : i.wellFormedIn .event = true)
    (hr : i ≠ .reset) : Passive s t := by
  cases h with
  | stay => exact passive_refl s
  | take e b ha => exact passive_takeReceive b ha
  | drop e b => exact .of_ep [.drop e b]
  | tick => exact .of_ep []
  | txdone r => exact .of_ep [.txRes r]
  | initdone r => exact .of_ep [.initRes r]
  | reset => exact absurd rfl hr
  | _ => simp [Instr.wellFormedIn, Instr.wordClass] at he

/-- A property is kept by every step when it is kept by the passive steps, by RESET and by each effect of SEQ's command. -/
theorem step_preserves {P : State → Prop} (hpassive : ∀ {s t}, Passive s t → P s → P t)
    (hreset : ∀ {s}, P s → P (s.resetRegisters.emit .rst))
    (hcmd : ∀ {s t i}, s.command = some i → Effect i s t → P s → P t) {s t : State} (hs : P s)
    (h : step s = .next t) : P t := by
  refine step_keeps P (fun s => hpassive (passive_popMove s)) (fun s _ => hpassive (passive_blink s))
    (fun s t i hs hc h => hcmd hc (exec_effect h) hs) (fun s t i hs he h => ?_) hs h
  by_cases hr : i = .reset
  · subst hr
    obtain ⟨-, rfl⟩ := execReset_next.1 h
    exact hreset hs
  · exact hpassive ((exec_effect h).passive he hr) hs

/-! #### SEQ's command after a step -/

theorem Passive.command {s t : State} (h : Passive s t) : t.command = s.command := command_congr h.rom h.upc h.fatal

/-- No meaning writes the ROM (20_memory.md R71, R84). -/
theorem Effect.rom {i : Instr} {s t : State} (h : Effect i s t) : t.rom = s.rom := by
  cases h <;> simp

/-- A phase starts a command anew, enters the fatal state, or goes on with the command it belongs to. -/
theorem Effect.ph_zero_or_command {i : Instr} {s t : State} (h : Effect i s t) (hc : s.command = some i) :
    t.ph = 0 ∨ t.command = none ∨ t.command = some i := by
  have hseq : t.ph = 0 ∨ t.fatal = true ∨ (t.upc = s.upc ∧ t.fatal = s.fatal) := by cases h <;> simp
  rcases hseq with h0 | hf | ⟨hu, hf⟩
  · exact .inl h0
  · exact .inr (.inl (by simp [State.command, hf]))
  · exact .inr (.inr (hc ▸ command_congr h.rom hu hf))

end Sys2Proof.Machine

namespace Sys2Proof.Safety

open Sys2Proof.Machine

/-! ### The channel invariant (10_state.md R39, R40) -/

/-- The first clause of the channel invariant: a set flag means an unarmed endpoint (10_state.md R39). -/
def FlagExcludesArm (s : State) : Prop := ∀ e, s.flag e = true → s.armed e = false

theorem channelInv_of_ph_zero {s : State} (hp : s.ph = 0) (hx : FlagExcludesArm s) : ChannelInv s :=
  fun e => ⟨hx e, by simp [hp], by simp [State.inRelay, hp]⟩

theorem channelInv_of_no_relay {s : State} (hr : ∀ e, s.relaying e = false) (hx : FlagExcludesArm s) : ChannelInv s :=
  fun e => ⟨hx e, by simp [hr], by simp [State.inRelay, hr]⟩

/-- During a relay the clauses that speak of relays concern its own source alone. -/
theorem channelInv_iff_of_relay {s : State} {e : Ep} {sw : Bool} (hc : s.command = some (.relay e sw)) :
    ChannelInv s ↔ FlagExcludesArm s ∧ (s.ph = 1 → s.flag e = true) ∧
      (2 ≤ s.ph.toNat → s.ph.toNat ≤ 8 → s.flag e = false ∧ s.armed e = false) := by
  have hrel := relaying_of_command hc
  constructor
  · intro h
    refine ⟨fun x => (h x).1, (h e).2.1 (by simp [hrel]), fun h2 h8 => (h e).2.2 ?_⟩
    simp [State.inRelay, hrel, h2, h8]
  · rintro ⟨hx, h1, h28⟩ x
    refine ⟨hx x, fun hr => ?_, fun hr => ?_⟩
    · obtain rfl : e = x := by simpa [hrel] using hr
      exact h1
    · obtain ⟨⟨rfl, h2⟩, h8⟩ : (e = x ∧ 2 ≤ s.ph.toNat) ∧ s.ph.toNat ≤ 8 := by
        simpa [State.inRelay, hrel] using hr
      exact h28 h2 h8

theorem ChannelInv.of_passive {s t : State} (h : Passive s t) (hs : ChannelInv s) : ChannelInv t := by
  intro e
  obtain ⟨hx, h1, h28⟩ := hs e
  rw [relaying_congr h.command, inRelay_congr h.command h.ph, h.ph]
  rcases h.endpoint e with ⟨hf, ha⟩ | ⟨ha, hf', ha'⟩
  · rw [hf, ha]
    exact ⟨hx, h1, h28⟩
  · refine ⟨fun _ => ha', fun _ _ => hf', fun hr => ?_⟩
    exact absurd (h28 hr).2 (by simp [ha])

/-- The relay's own clauses, phase by phase (41_relay_channel.md R146 to R157). -/
theorem relayClauses_of_effect {e : Ep} {sw : Bool} {s t : State} (h : Effect (.relay e sw) s t)
    (hx : FlagExcludesArm s) (h1 : s.ph = 1 → s.flag e = true)
    (h28 : 2 ≤ s.ph.toNat → s.ph.toNat ≤ 8 → s.flag e = false ∧ s.armed e = false) :
    (t.ph = 1 → t.flag e = true) ∧ (2 ≤ t.ph.toNat → t.ph.toNat ≤ 8 → t.flag e = false ∧ t.armed e = false) := by
  have hkept (h2 : 2 ≤ s.ph.toNat) (h8 : s.ph.toNat ≤ 8) (hf : t.flag e = s.flag e) (ha : t.armed e = s.armed e)
      (hp : t.ph ≠ 1) :
      (t.ph = 1 → t.flag e = true) ∧ (2 ≤ t.ph.toNat → t.ph.toNat ≤ 8 → t.flag e = false ∧ t.armed e = false) :=
    ⟨fun hp1 => absurd hp1 hp, fun _ _ => hf ▸ ha ▸ h28 h2 h8⟩
  cases h with
  | stay => exact ⟨h1, h28⟩
  | checkSet e sw hp hf => exact ⟨fun _ => hf, by simp⟩
  | clear e sw hp =>
    refine ⟨by cases sw <;> simp, fun _ _ => ?_⟩
    simpa [State.flag, State.armed] using hx e (h1 hp)
  | answered e sw hp => exact hkept (by simp [hp]) (by simp [hp]) rfl rfl (by cases sw <;> simp)
  | dirTx e sw hp | settledTx e sw hp | txReq e sw hp | dirRx e sw hp | settledRx e sw hp =>
    exact hkept (by simp [hp]) (by simp [hp]) rfl rfl (by simp)
  | _ => simp

/-- A phase that is no relay's has only the first clause to answer for. -/
theorem ChannelInv.of_command {i : Instr} {s t : State} (hc : s.command = some i) (h : Effect i s t) (hs : ChannelInv s) :
    ChannelInv t := by
  have hx : FlagExcludesArm s := fun e => (hs e).1
  have hx' : FlagExcludesArm t := fun e => (h.endpointWrite e).flag_excludes_arm (hx e) fun sw hi hp => by
    subst hi
    exact (((channelInv_iff_of_relay hc).1 hs).2.2 (by simp [hp]) (by simp [hp])).1
  rcases h.ph_zero_or_command hc with h0 | hn | hc'
  · exact channelInv_of_ph_zero h0 hx'
  · exact channelInv_of_no_relay (by simp [State.relaying, hn]) hx'
  · cases i with
    | relay e sw =>
      obtain ⟨-, h1, h28⟩ := (channelInv_iff_of_relay hc).1 hs
      exact (channelInv_iff_of_relay hc').2 ⟨hx', relayClauses_of_effect h hx h1 h28⟩
    | _ => exact channelInv_of_no_relay (by simp [State.relaying, hc']) hx'

theorem channelInv_resetRegisters (s : State) : ChannelInv (s.resetRegisters.emit .rst) :=
  channelInv_of_ph_zero rfl fun e => by simp [State.armed, Endpoint.reset]

/-- Settles O51: the relay's clauses follow its phases, and a byte is taken only by an armed endpoint, never by one in a relay. -/
theorem channelInvIsKept : Obligations.ChannelInvIsKept := by
  intro s t hs h
  exact step_preserves ChannelInv.of_passive (fun _ => channelInv_resetRegisters _) ChannelInv.of_command hs h

/-! ### Listed phases (30_encoding.md R113) and progress -/

theorem phaseInv_of_ph_zero {s : State} (hp : s.ph = 0) : PhaseInv s := by
  intro i hc
  have hw := (command_eq_some.1 hc).2.2
  cases i with
  | rxc | tick | txdone | initdone | reset => simp [Instr.wellFormedIn, Instr.wordClass] at hw
  | _ => simp [listedPhase, phaseCount, hp]

/-- Every phase rule leads from a listed phase to a listed phase of its command or to phase 0 (42_bridge_sequencer.md R171). -/
theorem listedPhase_of_effect {i : Instr} {s t : State} (h : Effect i s t) (hl : listedPhase i s.ph = true) :
    t.ph = 0 ∨ listedPhase i t.ph = true := by
  cases h with
  | stay | initFail | take | drop | tick | txdone | initdone => exact .inr (by simpa using hl)
  | clear e sw | answered e sw => cases sw <;> exact .inr (by simp [listedPhase, phaseCount])
  | _ => simp [listedPhase, phaseCount]

theorem PhaseInv.of_passive {s t : State} (h : Passive s t) (hs : PhaseInv s) : PhaseInv t := by
  intro i hc
  rw [h.ph]
  exact hs i (h.command ▸ hc)

theorem PhaseInv.of_command {i : Instr} {s t : State} (hc : s.command = some i) (h : Effect i s t) (hs : PhaseInv s) :
    PhaseInv t := by
  rcases listedPhase_of_effect h (hs i hc) with h0 | hl
  · exact phaseInv_of_ph_zero h0
  rcases h.ph_zero_or_command hc with h0 | hn | hc'
  · exact phaseInv_of_ph_zero h0
  · intro j hj
    simp [hn] at hj
  · intro j hj
    obtain rfl : i = j := by simpa [hc'] using hj
    exact hl

/-- The three breaches of the calling rules, at the phases that test for them (60_exceptions.md R202). -/
def Breach (i : Instr) (s : State) : Prop :=
  match i with
  | .arm e => s.flag e = true
  | .setdir d => s.ph = 0 ∧ d = .transmit ∧ s.de = .transmit
  | .relay e _ => (s.ph = 2 ∧ s.de = .transmit) ∨ (s.ph = 4 ∧ e = .A ∧ s.de = .receive)
  | _ => False

theorem breach_popMove (i : Instr) (s : State) : Breach i s.popMove ↔ Breach i s := by
  cases i <;> simp [Breach, State.flag]

theorem settlePhase_answers (s t : State) : ∃ u, settlePhase s t = .next u := by
  unfold settlePhase hold
  split <;> exact ⟨_, rfl⟩

/-- A phase number below ten is one of the ten. -/
theorem phase_cases {p : Phase} (h : p.toNat < 10) :
    p = 0 ∨ p = 1 ∨ p = 2 ∨ p = 3 ∨ p = 4 ∨ p = 5 ∨ p = 6 ∨ p = 7 ∨ p = 8 ∨ p = 9 := by
  bv_omega

theorem execRelay_answers {e : Ep} {sw : Bool} {s : State} (hl : s.ph.toNat < 10) (hb : ¬ Breach (.relay e sw) s) :
    ∃ t, execRelay e sw s = .next t := by
  obtain ⟨hde2, hde4⟩ := not_or.1 hb
  rcases phase_cases hl with h | h | h | h | h | h | h | h | h | h
  · exact ⟨_, execRelay_ph0 h⟩
  · exact ⟨_, execRelay_ph1 h⟩
  · exact ⟨_, (execRelay_ph2 h).trans (dirPhase_next.2 ⟨fun hd => hde2 ⟨h, hd.2⟩, rfl⟩)⟩
  · rw [execRelay_ph3 h]
    exact settlePhase_answers _ _
  · rw [execRelay_ph4 h]
    refine ⟨_, relayTxReq_next.2 ⟨fun hd => hde4 ⟨h, ?_, hd.2⟩, rfl⟩⟩
    rw [← otherEp_otherEp e, hd.1]
    rfl
  · rw [execRelay_ph5 h]
    unfold relayTxWait hold
    split <;> exact ⟨_, rfl⟩
  · exact ⟨_, (execRelay_ph6 h).trans (dirPhase_next.2 ⟨by simp, rfl⟩)⟩
  · rw [execRelay_ph7 h]
    exact settlePhase_answers _ _
  · exact ⟨_, execRelay_ph8 h⟩
  · exact ⟨_, execRelay_ph9 h⟩

/-- At a listed phase a command that breaches no calling rule answers a next state: it neither faults nor is refused. -/
theorem exec_answers {i : Instr} {s : State} (hl : listedPhase i s.ph = true) (hb : ¬ Breach i s) :
    ∃ t, exec i s = .next t := by
  have hn : s.ph.toNat < phaseCount i := of_decide_eq_true hl
  have hzero (h : s.ph.toNat < 1) : s.ph = 0 := by bv_omega
  have htwo (h : s.ph.toNat < 2) : s.ph = 0 ∨ s.ph = 1 := by bv_omega
  cases i with
  | init =>
    rcases htwo hn with h | h
    · exact ⟨_, execInit_next.2 (.inl ⟨h, rfl⟩)⟩
    · show ∃ t, execInit s = _
      rw [execInit_ph1 h]
      unfold initWait hold
      split
      · exact ⟨_, rfl⟩
      · split <;> exact ⟨_, rfl⟩
  | arm e =>
    have hf : s.flag e = false := Bool.eq_false_iff.2 hb
    cases ha : s.armed e
    · exact ⟨_, execArm_next.2 ⟨hzero hn, hf, .inr ⟨ha, rfl⟩⟩⟩
    · exact ⟨_, execArm_next.2 ⟨hzero hn, hf, .inl ⟨ha, rfl⟩⟩⟩
  | setdir d =>
    rcases htwo hn with h | h
    · exact ⟨_, execSetdir_next.2 (.inl ⟨h, dirPhase_next.2 ⟨fun hd => hb ⟨h, hd⟩, rfl⟩⟩)⟩
    · obtain ⟨u, hu⟩ := settlePhase_answers s s.advance
      exact ⟨u, execSetdir_next.2 (.inr ⟨h, hu⟩)⟩
  | relay e sw => exact execRelay_answers hn hb
  | hbeat => exact ⟨_, execHbeat_next.2 ⟨hzero hn, rfl⟩⟩
  | jmp a => exact ⟨_, execJmp_next.2 ⟨hzero hn, rfl⟩⟩
  | _ => simp [phaseCount] at hn

/-- An event answers a next state in every run that has not ended (70_reset_and_hazards.md R249; log 8). -/
theorem exec_event_answers {i : Instr} {s : State} (hs : s.stopped = false) (he : i.wellFormedIn .event = true) :
    ∃ t, exec i s = .next t := by
  cases i with
  | rxc e b => exact ⟨_, execRxc_next.2 ⟨hs, rfl⟩⟩
  | tick => exact ⟨_, execTick_next.2 ⟨hs, rfl⟩⟩
  | txdone r => exact ⟨_, execTxdone_next.2 ⟨hs, rfl⟩⟩
  | initdone r => exact ⟨_, execInitdone_next.2 ⟨hs, rfl⟩⟩
  | reset => exact ⟨_, execReset_next.2 ⟨hs, rfl⟩⟩
  | _ => simp [Instr.wellFormedIn, Instr.wordClass] at he

theorem isEventWord_iff {w : Word} :
    isEventWord w = true ↔ ∃ i, decode w = .instr i ∧ i.wellFormedIn .event = true := by
  unfold isEventWord
  split <;> simp_all

/-- A legal move of a live run answers a next state, where SEQ is at a command, at a listed phase and in no breach. -/
theorem step_answers {s : State} (hlive : s.stopped = false) (hlegal : s.nextMove.legal = true)
    (hseq : s.fatal = false → ∃ i, s.command = some i ∧ listedPhase i s.ph = true ∧ ¬ Breach i s) :
    ∃ t, step s = .next t := by
  cases hm : s.nextMove with
  | input w =>
    obtain ⟨i, hd, he⟩ := isEventWord_iff.1 (by simpa [hm, Move.legal] using hlegal)
    obtain ⟨t, ht⟩ := exec_event_answers (s := s.popMove) (by simpa using hlive) he
    exact ⟨t, step_next.2 ⟨hlive, .inr (.inr ⟨w, i, hm, hd, he, ht⟩)⟩⟩
  | seq =>
    cases hf : s.fatal with
    | true =>
      cases hb : s.popMove.blinkDue
      · exact ⟨_, step_next.2 ⟨hlive, .inl ⟨hm, hf, fatalBlink_next.2 (.inr ⟨hb, rfl⟩)⟩⟩⟩
      · exact ⟨_, step_next.2 ⟨hlive, .inl ⟨hm, hf, fatalBlink_next.2 (.inl ⟨hb, rfl⟩)⟩⟩⟩
    | false =>
      obtain ⟨i, hc, hl, hb⟩ := hseq hf
      obtain ⟨t, ht⟩ := exec_answers (s := s.popMove) (by simpa using hl) (mt (breach_popMove i s).1 hb)
      exact ⟨t, step_next.2 ⟨hlive, .inr (.inl ⟨hm, i, hc, ht⟩)⟩⟩

/-! ### The reference ROM (42_bridge_sequencer.md R190) -/

/-- SEQ's command at each of the seven words of the reference ROM (42_bridge_sequencer.md R190). -/
theorem command_of_referenceRom {s : State} (hr : s.rom = []) (hu : s.upc.toNat ≤ 6) (hf : s.fatal = false) :
    (s.upc = 0 ∧ s.command = some .init) ∨ (s.upc = 1 ∧ s.command = some (.arm .A)) ∨
    (s.upc = 2 ∧ s.command = some (.arm .B)) ∨ (s.upc = 3 ∧ s.command = some (.relay .A true)) ∨
    (s.upc = 4 ∧ s.command = some (.relay .B false)) ∨ (s.upc = 5 ∧ s.command = some .hbeat) ∨
    (s.upc = 6 ∧ s.command = some (.jmp 3)) := by
  have hcmd (a : Addr) (i : Instr) (ha : s.upc = a) (hd : decode (romWord [] a) = .instr i)
      (hw : i.wellFormedIn .command = true) : s.upc = a ∧ s.command = some i :=
    ⟨ha, command_eq_some.2 ⟨hf, by rw [State.fetched, hr, ha, hd], hw⟩⟩
  have h7 : s.upc = 0 ∨ s.upc = 1 ∨ s.upc = 2 ∨ s.upc = 3 ∨ s.upc = 4 ∨ s.upc = 5 ∨ s.upc = 6 := by bv_omega
  rcases h7 with h | h | h | h | h | h | h
  · exact .inl (hcmd 0 _ h rfl rfl)
  · exact .inr (.inl (hcmd 1 _ h rfl rfl))
  · exact .inr (.inr (.inl (hcmd 2 _ h rfl rfl)))
  · exact .inr (.inr (.inr (.inl (hcmd 3 _ h rfl rfl))))
  · exact .inr (.inr (.inr (.inr (.inl (hcmd 4 _ h rfl rfl)))))
  · exact .inr (.inr (.inr (.inr (.inr (.inl (hcmd 5 _ h rfl rfl))))))
  · exact .inr (.inr (.inr (.inr (.inr (.inr (hcmd 6 _ h rfl rfl))))))

/-- The clauses of `ReferenceInv` that speak of where SEQ stands in the bridge program. -/
def BridgeInv (s : State) : Prop :=
  s.upc.toNat ≤ 6 ∧ (s.fatal = true → s.upc = 0) ∧
  (s.de = .transmit ↔ s.fatal = false ∧ s.upc = 3 ∧ 3 ≤ s.ph.toNat ∧ s.ph.toNat ≤ 6) ∧
  (s.upc = 4 → s.ph ≠ 2 ∧ s.ph ≠ 3 ∧ s.ph ≠ 6 ∧ s.ph ≠ 7) ∧
  (s.upc.toNat ≤ 1 → s.flag .A = false ∧ s.armed .A = false) ∧
  (s.upc.toNat ≤ 2 → s.flag .B = false ∧ s.armed .B = false)

theorem referenceInv_iff {s : State} : ReferenceInv s ↔ s.rom = [] ∧ PhaseInv s ∧ BridgeInv s :=
  ⟨fun ⟨hr, hu, hp, h⟩ => ⟨hr, hp, hu, h⟩, fun ⟨hr, hp, hu, h⟩ => ⟨hr, hu, hp, h⟩⟩

theorem BridgeInv.of_passive {s t : State} (h : Passive s t) (hs : BridgeInv s) : BridgeInv t := by
  obtain ⟨hu, hf, hd, h4, hA, hB⟩ := hs
  have hunarmed (e : Ep) (hs : s.flag e = false ∧ s.armed e = false) : t.flag e = false ∧ t.armed e = false := by
    rcases h.endpoint e with ⟨hf, ha⟩ | ⟨ha, -⟩
    · rw [hf, ha]
      exact hs
    · simp [hs.2] at ha
  unfold BridgeInv
  rw [h.upc, h.fatal, h.de, h.ph]
  exact ⟨hu, hf, hd, h4, fun h1 => hunarmed .A (hA h1), fun h2 => hunarmed .B (hB h2)⟩

theorem BridgeInv.de_eq_receive {s : State} (hs : BridgeInv s) (h3 : s.upc ≠ 3) : s.de = .receive := by
  obtain ⟨-, -, hd, -⟩ := hs
  cases hde : s.de with
  | receive => rfl
  | transmit => exact absurd (hd.1 hde).2.1 h3

/-- Before the loop is entered the direction is RECEIVE and the clauses that are left speak of the endpoints. -/
theorem bridgeInv_of_boot {s : State} (hu : s.upc.toNat ≤ 2) (hf : s.fatal = true → s.upc = 0) (hd : s.de = .receive)
    (hA : s.upc.toNat ≤ 1 → s.flag .A = false ∧ s.armed .A = false) (hB : s.flag .B = false ∧ s.armed .B = false) :
    BridgeInv s := by
  have h3 : s.upc ≠ 3 := fun h => absurd hu (by simp [h])
  exact ⟨by omega, hf, iff_of_false (by simp [hd]) fun h => h3 h.2.1, fun h4 => absurd hu (by simp [h4]), hA, fun _ => hB⟩

/-- With SEQ in the loop the clauses that are left speak of the direction and of the switch phases. -/
theorem bridgeInv_of_loop {s : State} (hlo : 3 ≤ s.upc.toNat) (hhi : s.upc.toNat ≤ 6) (hf : s.fatal = false)
    (hd : s.de = .transmit ↔ s.upc = 3 ∧ 3 ≤ s.ph.toNat ∧ s.ph.toNat ≤ 6)
    (h4 : s.upc = 4 → s.ph ≠ 2 ∧ s.ph ≠ 3 ∧ s.ph ≠ 6 ∧ s.ph ≠ 7) : BridgeInv s :=
  ⟨hhi, by simp [hf], by simpa [hf] using hd, h4, fun h => absurd h (by omega), fun h => absurd h (by omega)⟩

theorem BridgeInv.of_command {i : Instr} {s t : State} (hr : s.rom = []) (hc : s.command = some i) (h : Effect i s t)
    (hs : BridgeInv s) : BridgeInv t := by
  have ⟨hu, _, hd, h4, hA, hB⟩ := hs
  have hf := (command_eq_some.1 hc).1
  rcases command_of_referenceRom hr hu hf with
      ⟨ha, hi⟩ | ⟨ha, hi⟩ | ⟨ha, hi⟩ | ⟨ha, hi⟩ | ⟨ha, hi⟩ | ⟨ha, hi⟩ | ⟨ha, hi⟩ <;>
    obtain rfl := Option.some.inj (hc.symm.trans hi)
  -- `INIT`: nothing is armed, whether SEQ goes on to `ARM A` or dies.
  · have hde := hs.de_eq_receive (by simp [ha])
    cases h <;>
      exact bridgeInv_of_boot (by simp [ha]) (by simp [ha, hf]) hde (fun _ => hA (by simp [ha])) (hB (by simp [ha]))
  -- `ARM A`: endpoint B is still unarmed at the next word.
  · have hde := hs.de_eq_receive (by simp [ha])
    cases h with
    | stay => exact hs
    | armAgain | armNew => exact bridgeInv_of_boot (by simp [ha]) (by simp [hf]) hde (by simp [ha]) (hB (by simp [ha]))
  -- `ARM B`: the next word is the loop's first.
  · cases h with
    | stay => exact hs
    | armAgain | armNew =>
      exact bridgeInv_of_loop (by simp [ha]) (by simp [ha]) (by simp [hf]) (by simp_all) (by simp_all)
  -- The loop: phase 2 of `RELAY A, 1` goes to 3 with TRANSMIT and phase 6 to 7 with RECEIVE; R_CLEAR and R_TXWAIT of
  -- `RELAY B, 0` skip the switch phases; `HBEAT` and `JMP 3` leave `de` alone.
  all_goals
    cases h <;> exact bridgeInv_of_loop (by simp [ha]) (by simp [ha]) (by simp [hf]) (by simp_all) (by simp_all)

theorem ReferenceInv.of_passive {s t : State} (h : Passive s t) (hs : ReferenceInv s) : ReferenceInv t := by
  obtain ⟨hr, hp, hb⟩ := referenceInv_iff.1 hs
  exact referenceInv_iff.2 ⟨h.rom.trans hr, hp.of_passive h, hb.of_passive h⟩

theorem ReferenceInv.of_command {i : Instr} {s t : State} (hc : s.command = some i) (h : Effect i s t)
    (hs : ReferenceInv s) : ReferenceInv t := by
  obtain ⟨hr, hp, hb⟩ := referenceInv_iff.1 hs
  exact referenceInv_iff.2 ⟨h.rom.trans hr, hp.of_command hc h, hb.of_command hr hc h⟩

theorem referenceInv_resetRegisters {s : State} (hr : s.rom = []) : ReferenceInv (s.resetRegisters.emit .rst) :=
  referenceInv_iff.2 ⟨hr, phaseInv_of_ph_zero rfl, by simp [BridgeInv, State.flag, State.armed, Endpoint.reset]⟩

theorem referenceInv_reset : ReferenceInv State.reset :=
  referenceInv_iff.2 ⟨rfl, phaseInv_of_ph_zero rfl, by unfold BridgeInv; decide⟩

/-- The reference ROM breaches no calling rule: its one switch to TRANSMIT starts from RECEIVE, it sends to B with the bus driven,
and it arms each endpoint before a flag can be set (60_exceptions.md R202). -/
theorem no_breach_of_referenceInv {s : State} (hf : s.fatal = false) (hs : ReferenceInv s) :
    ∃ i, s.command = some i ∧ listedPhase i s.ph = true ∧ ¬ Breach i s := by
  obtain ⟨hr, hp, hu, -, hd, h4, hA, hB⟩ := referenceInv_iff.1 hs
  suffices h : ∃ i, s.command = some i ∧ ¬ Breach i s by
    obtain ⟨i, hc, hb⟩ := h
    exact ⟨i, hc, hp i hc, hb⟩
  rcases command_of_referenceRom hr hu hf with
    ⟨ha, hi⟩ | ⟨ha, hi⟩ | ⟨ha, hi⟩ | ⟨ha, hi⟩ | ⟨ha, hi⟩ | ⟨ha, hi⟩ | ⟨ha, hi⟩
  · exact ⟨_, hi, id⟩
  · exact ⟨_, hi, by simp [Breach, hA (by simp [ha])]⟩
  · exact ⟨_, hi, by simp [Breach, hB (by simp [ha])]⟩
  · have hde : s.ph = 4 → s.de = .transmit := fun hp4 => hd.2 (by simp [hf, ha, hp4])
    refine ⟨_, hi, ?_⟩
    rintro (⟨hp2, hde2⟩ | ⟨hp4, -, hde4⟩)
    · simpa [hp2] using hd.1 hde2
    · simp [hde hp4] at hde4
  · refine ⟨_, hi, ?_⟩
    rintro (⟨hp2, -⟩ | ⟨-, hB, -⟩)
    · exact (h4 ha).1 hp2
    · cases hB
  · exact ⟨_, hi, id⟩
  · exact ⟨_, hi, id⟩

/-- Settles O56: where the invariant holds, SEQ is at a listed phase of a command whose calling rule is met. -/
theorem referenceRomNeverFaults : Obligations.ReferenceRomNeverFaults := by
  refine ⟨referenceInv_reset, fun s hs => ⟨fun t ht => ?_, fun hlive hlegal => ?_⟩⟩
  · exact step_preserves ReferenceInv.of_passive (fun hs => referenceInv_resetRegisters hs.1) ReferenceInv.of_command hs ht
  · exact step_answers hlive hlegal fun hf => no_breach_of_referenceInv hf hs

end Sys2Proof.Safety

/-! ### The writers of each register (10_state.md R32, R56) -/

namespace Sys2Proof.Machine

section
variable {i : Instr} {s t : State} {e : Ep} {v : Endpoint}

theorem EndpointWrite.writer_of_rxSlot (h : EndpointWrite i s e v) (hr : i ≠ .reset) (hw : v.rxSlot ≠ s.rxSlot e) :
    ∃ b, i = .rxc e b := by
  cases h with
  | take b hi => exact ⟨b, hi⟩
  | reset hi => exact absurd hi hr
  | _ => exact absurd rfl hw

theorem EndpointWrite.writer_of_txSlot (h : EndpointWrite i s e v) (hr : i ≠ .reset) (hw : v.txSlot ≠ s.txSlot e) :
    ∃ sw, i = .relay (otherEp e) sw ∧ s.ph = 1 := by
  cases h with
  | load x sw he hi hp => exact ⟨sw, by rw [he, otherEp_otherEp, hi], hp⟩
  | reset hi => exact absurd hi hr
  | _ => exact absurd rfl hw

theorem EndpointWrite.writer_of_flag (h : EndpointWrite i s e v) (hr : i ≠ .reset) (hw : v.flag ≠ s.flag e) :
    (v.flag = true ∧ ∃ b, i = .rxc e b) ∨ (v.flag = false ∧ ∃ sw, i = .relay e sw ∧ s.ph = 1) := by
  cases h with
  | take b hi => exact .inl ⟨rfl, b, hi⟩
  | clear sw hi hp => exact .inr ⟨rfl, sw, hi, hp⟩
  | reset hi => exact absurd hi hr
  | _ => exact absurd rfl hw

theorem EndpointWrite.writer_of_armed (h : EndpointWrite i s e v) (hr : i ≠ .reset) (hw : v.armed ≠ s.armed e) :
    (v.armed = false ∧ ∃ b, i = .rxc e b) ∨
      (v.armed = true ∧ ((i = .arm e ∧ s.ph = 0) ∨ ∃ sw, i = .relay e sw ∧ s.ph = 8)) := by
  cases h with
  | take b hi => exact .inl ⟨rfl, b, hi⟩
  | arm hi hp => exact .inr ⟨rfl, .inl ⟨hi, hp⟩⟩
  | rearm sw hi hp => exact .inr ⟨rfl, .inr ⟨sw, hi, hp⟩⟩
  | reset hi => exact absurd hi hr
  | _ => exact absurd rfl hw

theorem Effect.writer_of_de (h : Effect i s t) (hr : i ≠ .reset) (hw : t.de ≠ s.de ∨ t.dirT0 ≠ s.dirT0) :
    (∃ d, i = .setdir d ∧ s.ph = 0) ∨ ∃ e sw, i = .relay e sw ∧ (s.ph = 2 ∨ s.ph = 6) := by
  cases h with
  | setdirWrite d hp => exact .inl ⟨d, rfl, hp⟩
  | dirTx e sw hp => exact .inr ⟨e, sw, rfl, .inl hp⟩
  | dirRx e sw hp => exact .inr ⟨e, sw, rfl, .inr hp⟩
  | reset => exact absurd rfl hr
  | _ => simp at hw

theorem Effect.writer_of_now (h : Effect i s t) (hr : i ≠ .reset) (hw : t.now ≠ s.now) : i = .tick := by
  cases h with
  | tick => rfl
  | reset => exact absurd rfl hr
  | _ => simp at hw

theorem Effect.writer_of_hbLast (h : Effect i s t) (hr : i ≠ .reset) (hw : t.hbLast ≠ s.hbLast) :
    i = .hbeat ∧ s.ph = 0 := by
  cases h with
  | beat hp => exact ⟨rfl, hp⟩
  | reset => exact absurd rfl hr
  | _ => simp at hw

theorem Effect.writer_of_led (h : Effect i s t) (hr : i ≠ .reset) (hw : t.led ≠ s.led) :
    (i = .hbeat ∧ s.ph = 0) ∨ ∃ e sw, i = .relay e sw ∧ s.ph = 9 := by
  cases h with
  | beat hp => exact .inl ⟨rfl, hp⟩
  | ledToggle e sw hp => exact .inr ⟨e, sw, rfl, hp⟩
  | reset => exact absurd rfl hr
  | _ => simp at hw

/-- Only commands move SEQ; RESET is the one event that writes its registers. -/
theorem Effect.writer_of_seq (h : Effect i s t) (hr : i ≠ .reset) (hw : t.upc ≠ s.upc ∨ t.ph ≠ s.ph) :
    i.wellFormedIn .command = true := by
  cases h with
  | stay | take | drop | tick | txdone | initdone => simp at hw
  | reset => exact absurd rfl hr
  | _ => rfl

theorem Effect.writer_of_txPend (h : Effect i s t) (hr : i ≠ .reset) (hw : t.txPend ≠ s.txPend) :
    (t.txPend = true ∧ ∃ e sw, i = .relay e sw ∧ s.ph = 4) ∨ (t.txPend = false ∧ ∃ r, i = .txdone r) := by
  cases h with
  | txReq e sw hp => exact .inl ⟨rfl, e, sw, rfl, hp⟩
  | txdone r => exact .inr ⟨rfl, r, rfl⟩
  | reset => exact absurd rfl hr
  | _ => simp at hw

theorem Effect.writer_of_txres (h : Effect i s t) (hr : i ≠ .reset) (hw : t.txres ≠ s.txres) : ∃ r, i = .txdone r := by
  cases h with
  | txdone r => exact ⟨r, rfl⟩
  | reset => exact absurd rfl hr
  | _ => simp at hw

theorem Effect.writer_of_initPend (h : Effect i s t) (hr : i ≠ .reset) (hw : t.initPend ≠ s.initPend) :
    (t.initPend = true ∧ i = .init ∧ s.ph = 0) ∨ (t.initPend = false ∧ ∃ r, i = .initdone r) := by
  cases h with
  | initReq hp => exact .inl ⟨rfl, rfl, hp⟩
  | initdone r => exact .inr ⟨rfl, r, rfl⟩
  | reset => exact absurd rfl hr
  | _ => simp at hw

theorem Effect.writer_of_initOk (h : Effect i s t) (hr : i ≠ .reset) (hw : t.initOk ≠ s.initOk) :
    ∃ r, i = .initdone r := by
  cases h with
  | initdone r => exact ⟨r, rfl⟩
  | reset => exact absurd rfl hr
  | _ => simp at hw

theorem Effect.writer_of_fatal (h : Effect i s t) (hr : i ≠ .reset) (hw : t.fatal ≠ s.fatal) :
    t.fatal = true ∧ i = .init ∧ s.ph = 1 ∧ s.initPend = false ∧ s.initOk = false := by
  cases h with
  | initFail hp h1 h2 => exact ⟨rfl, rfl, hp, h1, h2⟩
  | reset => exact absurd rfl hr
  | _ => simp at hw

theorem Effect.writer_of_txT0 (h : Effect i s t) (hw : t.txT0 ≠ s.txT0) : ∃ e sw, i = .relay e sw ∧ s.ph = 4 := by
  cases h with
  | txReq e sw hp => exact ⟨e, sw, rfl, hp⟩
  | _ => simp at hw

end

end Sys2Proof.Machine

namespace Sys2Proof.Safety

open Sys2Proof.Machine Sys2Proof.Claims

/-- Settles O42: each register in turn, from the branches that write it. -/
theorem registersHaveTheirListedWriters : Obligations.RegistersHaveTheirListedWriters := by
  intro i s t h hr
  have he := exec_effect h
  have hep := he.endpointWrite
  exact ⟨he.writer_of_de hr, fun e => (hep e).writer_of_rxSlot hr, fun e => (hep e).writer_of_txSlot hr,
    fun e => (hep e).writer_of_flag hr, fun e => (hep e).writer_of_armed hr, he.writer_of_now hr, he.writer_of_hbLast hr,
    he.writer_of_led hr, he.writer_of_seq hr, he.writer_of_txPend hr, he.writer_of_txres hr, he.writer_of_initPend hr,
    he.writer_of_initOk hr, he.writer_of_fatal hr, he.writer_of_txT0⟩

/-! ### The fatal state (10_state.md R51, 60_exceptions.md R206) -/

/-- `RESET` has one word (30_encoding.md R104). -/
theorem eq_of_decode_reset {w : Word} (h : decode w = .instr .reset) : w = 0xC000 := by
  unfold decode at h
  split at h
  case h_11 hop =>
    obtain ⟨hz, -⟩ := ifZero_eq_instr.1 h
    have hhi : w.toNat / 4096 % 16 = 12 := by
      have := congrArg BitVec.toNat hop
      simpa [opField, Nat.shiftRight_eq_div_pow] using this
    have hlo : w.toNat % 4096 = 0 := by
      have := congrArg BitVec.toNat hz
      simpa [Nat.and_two_pow_sub_one_eq_mod w.toNat 12] using this
    apply BitVec.eq_of_toNat_eq
    show w.toNat = 49152
    omega
  all_goals simp [ifZero_eq_instr] at h

/-- In the fatal state SEQ only blinks, so every step but RESET is passive. -/
theorem passive_of_fatal {s t : State} (hf : s.fatal = true) (h : step s = .next t) (hn : s.nextMove ≠ .input 0xC000) :
    Passive s t := by
  refine (passive_popMove s).trans ?_
  obtain ⟨-, ⟨-, -, hb⟩ | ⟨-, i, hc, -⟩ | ⟨w, i, hm, hd, he, hx⟩⟩ := step_next.1 h
  · rcases fatalBlink_next.1 hb with ⟨-, rfl⟩ | ⟨-, rfl⟩
    · exact passive_blink _
    · exact passive_refl _
  · simp [State.command, hf] at hc
  · refine (exec_effect hx).passive he ?_
    rintro rfl
    exact hn (hm.trans (congrArg Move.input (eq_of_decode_reset hd)))

/-- Settles O48: every step of the fatal state but RESET is passive. -/
theorem onlyResetLeavesTheFatalState : Obligations.OnlyResetLeavesTheFatalState := by
  intro s t hf h hn
  have hp := passive_of_fatal hf h hn
  refine ⟨hp.fatal.trans hf, hp.upc, hp.ph, hp.de, hp.txSlot, fun e ha => ?_, hp.trace⟩
  rcases hp.endpoint e with ⟨-, ha'⟩ | ⟨hs, -⟩
  · exact ha' ▸ ha
  · exact hs

/-! ### The channel states (10_state.md R40) -/

/-- Settles O57: the invariant's clauses make the order of the tests in `chst` immaterial. -/
theorem channelStatesExclude : Obligations.ChannelStatesExclude := by
  intro s e hs
  obtain ⟨hx, -, hr⟩ := hs e
  unfold chst
  cases hrel : s.inRelay e with
  | true => simp [hr hrel]
  | false =>
    cases hf : s.flag e with
    | true => simp [hx hf]
    | false => cases ha : s.armed e <;> simp

/-! ### Moves and reset values -/

theorem step_input {s : State} {w : Word} (hlive : s.stopped = false) (hm : s.nextMove = .input w) :
    step s = inputStep w s.popMove := by
  unfold step machineStep
  rw [whenLive_of_live hlive, hm]
  rfl

/-- Settles O7: delivery tests the run's end and the word, and nothing of SEQ. -/
theorem inputMoveRunsTheEvent : Obligations.InputMoveRunsTheEvent := by
  intro s w i hlive hm hd he
  simp [step_input hlive hm, inputStep, hd, he]

theorem freeMove_legal (n : Nat) : (freeMove n).legal = true := by
  unfold freeMove
  split
  · assumption
  · rfl

/-- Settles O8, from the two forms of the schedule. -/
theorem movesComeFromTheScheduleThenFreely : Obligations.MovesComeFromTheScheduleThenFreely :=
  ⟨fun s m ms h => by simp [State.nextMove, State.popMove, h], fun s h => by simp [State.nextMove, State.popMove, h],
    fun n => ⟨freeMove_legal n, rfl⟩⟩

theorem atResetValues_resetRegisters (s : State) : atResetValues s.resetRegisters := by
  simp [atResetValues, State.rxSlot, State.txSlot, State.flag, State.armed, Endpoint.reset]

/-- Settles O14: the start of a run is its own reset, and RESET only adds its event to the trace. -/
theorem resetValues : Obligations.ResetValues := by
  refine ⟨atResetValues_resetRegisters State.reset, rfl, fun s t h => ?_⟩
  obtain ⟨-, rfl⟩ := execReset_next.1 h
  exact atResetValues_resetRegisters s

/-- Settles O52: at phase 0 with no flag set only the first clause is left, and it is R39. -/
theorem channelInvAtReset : Obligations.ChannelInvAtReset :=
  ⟨channelInv_of_ph_zero rfl fun e => by cases e <;> decide, fun _ e hs => (hs e).1⟩

end Sys2Proof.Safety

/-! ### What lies outside the registers (20_memory.md R71, R84) -/

namespace Sys2Proof.Machine

/-- No meaning writes a parameter, the moves to come, the fault record or the refusal mark (00_scope.md R10, 10_state.md
R59; log 9). -/
theorem Effect.params_moves_record {i : Instr} {s t : State} (h : Effect i s t) :
    t.params = s.params ∧ t.schedule = s.schedule ∧ t.moveNo = s.moveNo ∧ t.faults = s.faults ∧
    t.refusedMark = s.refusedMark := by
  cases h <;> simp

end Sys2Proof.Machine

namespace Sys2Proof.Safety

open Sys2Proof.Machine

/-- Settles O39: the ROM is kept whole, and so is each of its bytes. -/
theorem noInstructionWritesRomOrParameters : Obligations.NoInstructionWritesRomOrParameters := by
  intro i s t h
  have he := exec_effect h
  exact ⟨fun c => congrArg (readCell · c) he.rom, he.rom, he.params_moves_record⟩

end Sys2Proof.Safety

/-! ### The receive slots (20_memory.md R74, R81) -/

namespace Sys2Proof.Machine

/-- A receive slot is overwritten by RESET, or by a byte its endpoint was armed for (10_state.md R35). -/
theorem EndpointWrite.rxSlot_of_unarmed {i : Instr} {s : State} {e : Ep} {v : Endpoint} (h : EndpointWrite i s e v)
    (hr : i ≠ .reset) (ha : s.armed e = false) : v.rxSlot = s.rxSlot e := by
  cases h with
  | take b hi ha' => simp [ha] at ha'
  | reset hi => exact absurd hi hr
  | _ => rfl

/-- R_TXREQ is the one meaning that shows a transmit request, and it sends the target's transmit slot
(41_relay_channel.md R151). -/
theorem Effect.relay_of_txReq {i : Instr} {s t : State} {o : Ep} {b : Byte} (h : Effect i s t)
    (ht : t.trace = s.trace ++ [.txReq o b]) : (∃ sw, i = .relay (otherEp o) sw) ∧ s.ph = 4 ∧ b = s.txSlot o := by
  cases h with
  | txReq e sw hp =>
    obtain ⟨rfl, rfl⟩ : otherEp e = o ∧ s.txSlot (otherEp e) = b := by simpa using ht
    exact ⟨⟨sw, by rw [otherEp_otherEp]⟩, hp, rfl⟩
  | _ => simp at ht

end Sys2Proof.Machine

namespace Sys2Proof.Safety

open Sys2Proof.Machine

theorem command_ne_reset {s : State} {i : Instr} (hc : s.command = some i) : i ≠ .reset := by
  rintro rfl
  exact absurd (command_eq_some.1 hc).2.2 (by decide)

/-- No step but RESET overwrites the receive slot of an unarmed endpoint. -/
theorem rxSlot_of_unarmed {s t : State} {e : Ep} (h : step s = .next t) (hn : s.nextMove ≠ .input 0xC000)
    (ha : s.armed e = false) : t.rxSlot e = s.rxSlot e := by
  have hpop : s.popMove.rxSlot e = s.rxSlot e ∧ s.popMove.armed e = s.armed e := by simp [State.rxSlot, State.armed]
  have hexec {i : Instr} (hr : i ≠ .reset) (hx : exec i s.popMove = .next t) : t.rxSlot e = s.rxSlot e :=
    (((exec_effect hx).endpointWrite e).rxSlot_of_unarmed hr (hpop.2.trans ha)).trans hpop.1
  obtain ⟨-, ⟨-, -, hb⟩ | ⟨-, i, hc, hx⟩ | ⟨w, i, hm, hd, -, hx⟩⟩ := step_next.1 h
  · rcases fatalBlink_next.1 hb with ⟨-, rfl⟩ | ⟨-, rfl⟩ <;> simp [State.rxSlot]
  · exact hexec (command_ne_reset hc) hx
  · refine hexec ?_ hx
    rintro rfl
    exact hn (hm.trans (congrArg Move.input (eq_of_decode_reset hd)))

/-! ### The byte invariant (41_relay_channel.md R144) -/

theorem byteInv_of_ph_zero {s : State} (hp : s.ph = 0) : ByteInv s := fun e => by simp [hp]

theorem byteInv_of_no_relay {s : State} (hr : ∀ e, s.relaying e = false) : ByteInv s := fun e => by simp [hr]

/-- During a relay the invariant concerns its own source alone. -/
theorem byteInv_iff_of_relay {s : State} {e : Ep} {sw : Bool} (hc : s.command = some (.relay e sw)) :
    ByteInv s ↔ (2 ≤ s.ph.toNat → s.ph.toNat ≤ 5 → s.txSlot (otherEp e) = s.rxSlot e) := by
  simp [ByteInv, relaying_of_command hc]

/-- A step that leaves SEQ, the transmit slots and the receive slots of unarmed endpoints alone keeps the invariant: the source
of a relay in progress is unarmed. -/
theorem ByteInv.of_frame {s t : State} (hch : ChannelInv s) (hs : ByteInv s) (hp : Passive s t)
    (hrx : ∀ e, s.armed e = false → t.rxSlot e = s.rxSlot e) : ByteInv t := by
  intro e hr h2 h5
  rw [relaying_congr hp.command] at hr
  rw [hp.ph] at h2 h5
  have hin : s.inRelay e = true := by simp [State.inRelay, hr, h2, show s.ph.toNat ≤ 8 by omega]
  rw [hp.txSlot, hrx e ((hch e).2.2 hin).2, hs e hr h2 h5]

/-- R_CLEAR loads the target's transmit slot, and the phases up to R_TXWAIT write neither slot (R147 to R153). -/
theorem relayByte_of_effect {e : Ep} {sw : Bool} {s t : State} (h : Effect (.relay e sw) s t)
    (hs : 2 ≤ s.ph.toNat → s.ph.toNat ≤ 5 → s.txSlot (otherEp e) = s.rxSlot e) :
    2 ≤ t.ph.toNat → t.ph.toNat ≤ 5 → t.txSlot (otherEp e) = t.rxSlot e := by
  cases h with
  | stay => exact hs
  | clear e sw => exact fun _ _ => by simp [State.txSlot, State.rxSlot]
  | dirTx e sw hp | settledTx e sw hp | txReq e sw hp => exact fun _ _ => hs (by simp [hp]) (by simp [hp])
  | answered e sw hp => cases sw <;> simp
  | _ => simp

theorem ByteInv.of_command {i : Instr} {s t : State} (hc : s.command = some i) (h : Effect i s t) (hs : ByteInv s) :
    ByteInv t := by
  rcases h.ph_zero_or_command hc with h0 | hn | hc'
  · exact byteInv_of_ph_zero h0
  · exact byteInv_of_no_relay (by simp [State.relaying, hn])
  · cases i with
    | relay e sw => exact (byteInv_iff_of_relay hc').2 (relayByte_of_effect h ((byteInv_iff_of_relay hc).1 hs))
    | _ => exact byteInv_of_no_relay (by simp [State.relaying, hc'])

/-- An event keeps the invariant: RESET leaves SEQ at phase 0, and no other event writes the slots of a relay in progress. -/
theorem ByteInv.of_event {i : Instr} {s t : State} (he : i.wellFormedIn .event = true) (h : Effect i s t)
    (hch : ChannelInv s) (hs : ByteInv s) : ByteInv t := by
  by_cases hr : i = .reset
  · subst hr
    cases h with
    | stay => exact hs
    | reset => exact byteInv_of_ph_zero rfl
  · exact hs.of_frame hch (h.passive he hr) fun e => (h.endpointWrite e).rxSlot_of_unarmed hr

/-- Every step keeps the byte invariant where the channel invariant holds. -/
theorem step_keeps_byteInv {s t : State} (hch : ChannelInv s) (hs : ByteInv s) (h : step s = .next t) : ByteInv t := by
  have hch' : ChannelInv s.popMove := hch.of_passive (passive_popMove s)
  have hs' : ByteInv s.popMove := hs.of_frame hch (passive_popMove s) (by simp [State.rxSlot])
  obtain ⟨-, ⟨-, -, hb⟩ | ⟨-, i, hc, hx⟩ | ⟨w, i, -, -, he, hx⟩⟩ := step_next.1 h
  · rcases fatalBlink_next.1 hb with ⟨-, rfl⟩ | ⟨-, rfl⟩
    · exact hs'.of_frame hch' (passive_blink _) (by simp [State.rxSlot])
    · exact hs'
  · exact hs'.of_command ((popMove_command s).trans hc) (exec_effect hx)
  · exact hs'.of_event he (exec_effect hx) hch'

/-- The byte of a transmit request is the source's receive slot: at R_TXREQ the invariant holds of the target's slot. -/
theorem rxSlot_of_txReq {s t : State} {o : Ep} {b : Byte} (hs : ByteInv s) (h : step s = .next t)
    (ht : t.trace = s.trace ++ [.txReq o b]) : b = s.rxSlot (otherEp o) := by
  have hpop : t.trace = s.popMove.trace ++ [.txReq o b] := by simpa using ht
  obtain ⟨-, ⟨-, -, hb⟩ | ⟨-, i, hc, hx⟩ | ⟨w, i, -, -, he, hx⟩⟩ := step_next.1 h
  · rcases fatalBlink_next.1 hb with ⟨-, rfl⟩ | ⟨-, rfl⟩ <;> simp at ht
  · obtain ⟨⟨sw, rfl⟩, h4, rfl⟩ := (exec_effect hx).relay_of_txReq hpop
    have hp : s.ph = 4 := by simpa using h4
    have hbyte := (byteInv_iff_of_relay hc).1 hs (by simp [hp]) (by simp [hp])
    simpa [State.txSlot, otherEp_otherEp] using hbyte
  · obtain ⟨⟨sw, rfl⟩, -⟩ := (exec_effect hx).relay_of_txReq hpop
    exact absurd he (by simp [Instr.wellFormedIn, Instr.wordClass])

/-- Settles O53: the channel invariant keeps a flagged endpoint and the source of a relay unarmed, so that no byte replaces the one
being relayed. -/
theorem relayedByteIsTheReceivedByte : Obligations.RelayedByteIsTheReceivedByte :=
  ⟨byteInv_of_ph_zero rfl, fun _ _ hch hs h =>
    ⟨step_keeps_byteInv hch hs h, fun _ _ => rxSlot_of_txReq hs h, fun e hf hn => rxSlot_of_unarmed h hn ((hch e).1 hf)⟩⟩

end Sys2Proof.Safety

/-! ### The order of the two interrupt agents (20_memory.md R86, 60_exceptions.md R213) -/

namespace Sys2Proof.Machine

/-- What a byte does to its endpoint's record: taken by an armed one, lost by another (41_relay_channel.md R140, R141). -/
def Endpoint.receive (v : Endpoint) (b : Byte) : Endpoint :=
  if v.armed then { v with rxSlot := b, armed := false, flag := true } else v

@[simp] theorem State.setEp_ep_self (s : State) (e : Ep) : s.setEp e (s.ep e) = s := by cases e <;> rfl

/-- A byte writes its own endpoint and the trace, and nothing else. -/
theorem execRxc_receive {s : State} (e : Ep) (b : Byte) (hlive : s.stopped = false) :
    ∃ o, exec (.rxc e b) s = .next ((s.setEp e ((s.ep e).receive b)).emit o) := by
  refine ⟨if s.armed e then .rx e b else .drop e b, execRxc_next.2 ⟨hlive, ?_⟩⟩
  have hview : (s.ep e).armed = s.armed e := rfl
  cases ha : s.armed e with
  | true => simp [Endpoint.receive, hview, ha, takeReceive]
  | false => simp [Endpoint.receive, hview, ha, dropByte]

/-- Writes to the two endpoints commute. -/
theorem State.setEp_comm (s : State) (e : Ep) (v w : Endpoint) :
    (s.setEp e v).setEp (otherEp e) w = (s.setEp (otherEp e) w).setEp e v := by cases e <;> rfl

end Sys2Proof.Machine

namespace Sys2Proof.Claims

open Sys2Proof.Machine

theorem runInstrs_cons {i : Instr} {is : List Instr} {s t : State} (h : exec i s = .next t) :
    runInstrs (i :: is) s = runInstrs is t := by simp [runInstrs, h, andThen]

/-- Two bytes, one on each endpoint: both are received, each by the record its endpoint had before. -/
theorem runInstrs_rxc_rxc {s : State} (e : Ep) (a b : Byte) (hlive : s.stopped = false) :
    ∃ t, runInstrs [.rxc e a, .rxc (otherEp e) b] s = .next t ∧
      quiet t = quiet ((s.setEp e ((s.ep e).receive a)).setEp (otherEp e) ((s.ep (otherEp e)).receive b)) := by
  obtain ⟨o, h⟩ := execRxc_receive e a hlive
  have hlive' : ((s.setEp e ((s.ep e).receive a)).emit o).stopped = false := by simpa [State.stopped] using hlive
  obtain ⟨p, k⟩ := execRxc_receive (otherEp e) b hlive'
  refine ⟨_, (runInstrs_cons h).trans (runInstrs_cons k), ?_⟩
  cases e <;> rfl

/-- Settles O47: each byte is received by its own endpoint's record, and the two writes commute. -/
theorem interruptOrderChangesNoRegister : Obligations.InterruptOrderChangesNoRegister := by
  intro s a b hlive
  obtain ⟨t, ht, htq⟩ := runInstrs_rxc_rxc .A a b hlive
  obtain ⟨u, hu, huq⟩ := runInstrs_rxc_rxc .B b a hlive
  exact ⟨t, u, ht, hu, htq.trans ((congrArg quiet (s.setEp_comm ..)).trans huq.symm)⟩

end Sys2Proof.Claims

/-! ### The opcode table (30_encoding.md R93 to R107, R117) -/

namespace Sys2Proof

/-- A word is its opcode and its low twelve bits. -/
theorem word_eq_iff {x y : Word} : x = y ↔ opField x = opField y ∧ x &&& 0x0FFF#16 = y &&& 0x0FFF#16 := by
  refine ⟨fun h => h ▸ ⟨rfl, rfl⟩, fun ⟨hop, hlow⟩ => BitVec.eq_of_toNat_eq ?_⟩
  have hhi : x.toNat / 4096 % 16 = y.toNat / 4096 % 16 := by
    simpa [opField, Nat.shiftRight_eq_div_pow] using congrArg BitVec.toNat hop
  have hlo : x.toNat % 4096 = y.toNat % 4096 := by
    simpa [Nat.and_two_pow_sub_one_eq_mod _ 12] using congrArg BitVec.toNat hlow
  omega

theorem opField_and (x y : Word) : opField (x &&& y) = opField x &&& opField y := BitVec.extractLsb'_and

/-- An instruction is no command exactly when it is an event (30_encoding.md R90). -/
theorem Instr.wellFormedIn_command (i : Instr) : i.wellFormedIn .command = !i.wellFormedIn .event := by cases i <;> rfl

end Sys2Proof

namespace Sys2Proof.Claims

/-- The mask and the match of an instruction's own row (30_encoding.md R94 to R104). -/
def rowOf : Instr → Word × Word
  | .init => (0xFFFF, 0x0000)
  | .arm _ => (0xF7FF, 0x1000)
  | .setdir _ => (0xFBFF, 0x2000)
  | .relay _ _ => (0xF3FF, 0x3000)
  | .hbeat => (0xFFFF, 0x4000)
  | .jmp _ => (0xFF00, 0x5000)
  | .rxc _ _ => (0xF700, 0x8000)
  | .tick => (0xFFFF, 0x9000)
  | .txdone _ => (0xFBFF, 0xA000)
  | .initdone _ => (0xFBFF, 0xB000)
  | .reset => (0xFFFF, 0xC000)

theorem rowOf_mem_tableMasks (i : Instr) : rowOf i ∈ tableMasks := by cases i <;> simp [rowOf, tableMasks]

/-- Every row masks the whole opcode, and its match leaves the low twelve bits 0. -/
theorem opcode_masked {r : Word × Word} (hr : r ∈ tableMasks) : opField r.1 = 0xF ∧ r.2 &&& 0x0FFF#16 = 0 := by
  revert r
  simp [tableMasks, opField]

/-- Being in a row is having its opcode, and 0 in the other bits of its mask: the test `decode` makes. -/
theorem inRow_iff {w : Word} {r : Word × Word} (hr : r ∈ tableMasks) :
    inRow w r ↔ opField w = opField r.2 ∧ w &&& (r.1 &&& 0x0FFF#16) = 0 := by
  obtain ⟨hop, hlow⟩ := opcode_masked hr
  have hall : opField w &&& 0xF = opField w := BitVec.and_allOnes
  rw [inRow, word_eq_iff, opField_and, hop, hlow, BitVec.and_assoc, hall]

/-- No word is in two rows: the opcodes of the rows differ. -/
theorem eq_of_inRow {w : Word} {r q : Word × Word} (hr : r ∈ tableMasks) (hq : q ∈ tableMasks) (hwr : inRow w r)
    (hwq : inRow w q) : r = q := by
  have hop : opField r.2 = opField q.2 := ((inRow_iff hr).1 hwr).1.symm.trans ((inRow_iff hq).1 hwq).1
  have hnodup : (tableMasks.map fun r => opField r.2).Nodup := by decide
  exact List.inj_on_of_nodup_map hnodup hr hq hop

/-- A legal word is in the row of its instruction. -/
theorem inRow_of_decode {w : Word} {i : Instr} (h : decode w = .instr i) : inRow w (rowOf i) := by
  refine (inRow_iff (rowOf_mem_tableMasks i)).2 ?_
  unfold decode at h
  split at h
  case h_12 => cases h
  all_goals
    rename_i hop
    obtain ⟨hz, rfl⟩ := ifZero_eq_instr.1 h
    simpa [rowOf, opField] using And.intro hop hz

/-- An illegal word is in no row: `decode` answers an instruction where a row's opcode and its zero bits match. -/
theorem not_inRow_of_illegal {w : Word} {why : IllegalWord} (h : decode w = .illegal why) {r : Word × Word}
    (hr : r ∈ tableMasks) : ¬ inRow w r := by
  rw [inRow_iff hr]
  rintro ⟨hop, hz⟩
  simp only [tableMasks, List.mem_cons, List.not_mem_nil, or_false] at hr
  rcases hr with rfl | rfl | rfl | rfl | rfl | rfl | rfl | rfl | rfl | rfl | rfl <;>
    simp_all [decode, opField, ifZero]

/-- The words of a row are those that decode to one of its instructions. -/
theorem exists_decode_rowOf_iff {w : Word} {r : Word × Word} (hr : r ∈ tableMasks) :
    (∃ i, decode w = .instr i ∧ rowOf i = r) ↔ inRow w r := by
  constructor
  · rintro ⟨i, hd, rfl⟩
    exact inRow_of_decode hd
  · intro hw
    cases hd : decode w with
    | instr i => exact ⟨i, rfl, eq_of_inRow (rowOf_mem_tableMasks i) hr (inRow_of_decode hd) hw⟩
    | illegal why => exact absurd hw (not_inRow_of_illegal hd hr)

/-- ILLEGAL is what is left when no row matches. -/
theorem illegal_iff_no_row {w : Word} : (∃ why, decode w = .illegal why) ↔ ∀ r ∈ tableMasks, ¬ inRow w r := by
  refine ⟨fun ⟨why, hd⟩ r hr => not_inRow_of_illegal hd hr, fun hno => ?_⟩
  cases hd : decode w with
  | instr i => exact absurd (inRow_of_decode hd) (hno _ (rowOf_mem_tableMasks i))
  | illegal why => exact ⟨why, rfl⟩

/-- Some instruction has a property: one of the eleven rows has an instruction that does. -/
theorem exists_instr_iff {p : Instr → Prop} :
    (∃ i, p i) ↔ p .init ∨ (∃ e, p (.arm e)) ∨ (∃ d, p (.setdir d)) ∨ (∃ e sw, p (.relay e sw)) ∨ p .hbeat ∨
      (∃ a, p (.jmp a)) ∨ (∃ e b, p (.rxc e b)) ∨ p .tick ∨ (∃ r, p (.txdone r)) ∨ (∃ r, p (.initdone r)) ∨ p .reset := by
  constructor
  · rintro ⟨i, h⟩
    cases i <;> grind
  · rintro (h | ⟨e, h⟩ | ⟨d, h⟩ | ⟨e, sw, h⟩ | h | ⟨a, h⟩ | ⟨e, b, h⟩ | h | ⟨r, h⟩ | ⟨r, h⟩ | h) <;> exact ⟨_, h⟩

/-- Settles O2: each clause is `exists_decode_rowOf_iff` at one row, and rows that share a word are equal. -/
theorem decodeIsTheTable : Obligations.DecodeIsTheTable := by
  have hnodup : tableMasks.Nodup := by decide
  refine ⟨fun w => ?_, hnodup.imp_of_mem fun hr hq hne w ⟨hwr, hwq⟩ => hne (eq_of_inRow hr hq hwr hwq)⟩
  refine ⟨?_, ?_, ?_, ?_, ?_, ?_, ?_, ?_, ?_, ?_, ?_, illegal_iff_no_row⟩
  all_goals
    rw [← exists_decode_rowOf_iff (by decide), exists_instr_iff]
    simp [rowOf]

/-- Settles O1: `decode` computes on each word. -/
theorem tableWordsDecode : Obligations.TableWordsDecode := by
  unfold Obligations.TableWordsDecode
  decide

end Sys2Proof.Claims

/-! ### Words of the wrong class (30_encoding.md R106 to R108, 42_bridge_sequencer.md R170) -/

namespace Sys2Proof.Machine

open Sys2Proof.Claims Sys2Proof.Safety

/-- Bit 15 of a legal word tells its class (30_encoding.md R90). -/
theorem event_iff_of_decode {w : Word} {i : Instr} (h : decode w = .instr i) :
    i.wellFormedIn .event = true ↔ 0x8000 ≤ w.toNat := by
  have hrow : (rowOf i).1.msb = true ∧ (rowOf i).2.msb = i.wellFormedIn .event := by
    cases i <;> simp only [rowOf] <;> exact ⟨rfl, rfl⟩
  have hmsb : (w &&& (rowOf i).1).msb = (rowOf i).2.msb := congrArg BitVec.msb (inRow_of_decode h)
  rw [BitVec.msb_and, hrow.1, hrow.2, Bool.and_true, BitVec.msb_eq_decide] at hmsb
  simp [← hmsb]

theorem step_seq {s : State} (hlive : s.stopped = false) (hm : s.nextMove = .seq) : step s = seqStep s.popMove := by
  unfold step machineStep
  rw [whenLive_of_live hlive, hm]
  rfl

/-- The fetch refuses a word that is no command. -/
theorem seqStep_refuses {s : State} (hf : s.fatal = false)
    (h : ∀ i, decode s.fetched = .instr i → i.wellFormedIn .command = false) : seqStep s = refuseFetch s := by
  unfold seqStep
  cases hd : decode s.fetched with
  | instr i => simp [hf, h i hd]
  | illegal why => simp [hf]

/-- The input stream refuses a word that is no event. -/
theorem inputStep_refuses {w : Word} {s : State} (h : ∀ i, decode w = .instr i → i.wellFormedIn .event = false) :
    inputStep w s = refuseInput w := by
  unfold inputStep
  cases hd : decode w with
  | instr i => simp [h i hd]
  | illegal why => rfl

/-- Settles O9: a legal word's class is that of its bit 15, and each agent refuses what is not of its own class. -/
theorem wrongOrIllegalWordsAreRefused : Obligations.WrongOrIllegalWordsAreRefused := by
  refine ⟨fun s hlive hm hf hw => ?_, fun s w hlive hm hw => ?_⟩
  · rw [step_seq hlive hm, seqStep_refuses (by simpa using hf) fun i hd => ?_]
    · simp [refuseFetch, State.fetched]
    · rw [popMove_fetched] at hd
      rcases hw with hhi | ⟨why, hill⟩
      · simpa [Instr.wellFormedIn_command] using (event_iff_of_decode hd).2 hhi
      · cases hd.symm.trans hill
  · rw [step_input hlive hm, inputStep_refuses fun i hd => ?_]
    · rfl
    · rcases hw with hlo | ⟨why, hill⟩
      · exact Bool.eq_false_iff.2 fun he => absurd ((event_iff_of_decode hd).1 he) (by omega)
      · cases hd.symm.trans hill

end Sys2Proof.Machine

/-! ### A transmission in flight (40_direction_controller.md R129, 41_relay_channel.md R150) -/

namespace Sys2Proof.Machine

/-- No event sets `tx_pend`: TXDONE and RESET clear it, and the others leave it alone (10_state.md R47). -/
theorem Effect.txPend_of_event {i : Instr} {s t : State} (h : Effect i s t) (he : i.wellFormedIn .event = true)
    (ht : t.txPend = true) : s.txPend = true := by
  cases h with
  | txReq => simp [Instr.wellFormedIn, Instr.wordClass] at he
  | txdone r | reset => simp at ht
  | _ => simpa using ht

/-- R_TXWAIT holds until the answer has come (41_relay_channel.md R153); every other branch of a relay is at another phase. -/
theorem Effect.eq_of_txWait {e : Ep} {sw : Bool} {s t : State} (h : Effect (.relay e sw) s t) (hp : s.ph = 5)
    (hq : s.txPend = true) : t = s := by
  cases h with
  | stay => rfl
  | answered e sw hp' hq' => simp [hq] at hq'
  | _ => simp_all

end Sys2Proof.Machine

namespace Sys2Proof.Safety

open Sys2Proof.Machine

theorem flightInv_of_not_txPend {s : State} (hq : s.txPend = false) : FlightInv s := fun h => by simp [hq] at h

/-- While a transmission is in flight SEQ is at a hold, so that its command changes nothing. -/
theorem FlightInv.eq_of_command {i : Instr} {s t : State} (hs : FlightInv s) (hq : s.txPend = true)
    (hc : s.command = some i) (h : Effect i s t) : t = s := by
  obtain ⟨e, sw, hc', hp, -⟩ := hs hq
  obtain rfl : i = .relay e sw := Option.some.inj (hc.symm.trans hc')
  exact h.eq_of_txWait hp hq

/-- A passive step that starts no transmission keeps the invariant. -/
theorem FlightInv.of_passive {s t : State} (hs : FlightInv s) (h : Passive s t)
    (hq : t.txPend = true → s.txPend = true) : FlightInv t := by
  intro ht
  obtain ⟨e, sw, hc, hp, hd⟩ := hs (hq ht)
  exact ⟨e, sw, h.command.trans hc, h.ph.trans hp, fun he => h.de.trans (hd he)⟩

/-- R_TXREQ starts a transmission and goes to R_TXWAIT; to B it does so only with the bus driven (41_relay_channel.md R151). -/
theorem FlightInv.of_command {i : Instr} {s t : State} (hs : FlightInv s) (hc : s.command = some i) (h : Effect i s t) :
    FlightInv t := by
  cases hq : s.txPend with
  | true => exact hs.eq_of_command hq hc h ▸ hs
  | false =>
    cases h with
    | txReq e sw hp hd =>
      refine fun _ => ⟨e, sw, hc ▸ command_congr rfl rfl rfl, rfl, ?_⟩
      rintro rfl
      cases hde : s.de with
      | receive => exact absurd ⟨rfl, hde⟩ hd
      | transmit => simpa using hde
    | _ => exact flightInv_of_not_txPend (by simp [hq])

theorem FlightInv.of_event {i : Instr} {s t : State} (hs : FlightInv s) (he : i.wellFormedIn .event = true)
    (h : Effect i s t) : FlightInv t := by
  by_cases hr : i = .reset
  · subst hr
    cases h with
    | stay => exact hs
    | reset => exact flightInv_of_not_txPend rfl
  · exact hs.of_passive (h.passive he hr) (h.txPend_of_event he)

theorem FlightInv.of_popMove {s : State} (hs : FlightInv s) : FlightInv s.popMove :=
  hs.of_passive (passive_popMove s) (by simp)

theorem step_keeps_flightInv {s t : State} (hs : FlightInv s) (h : step s = .next t) : FlightInv t :=
  step_keeps FlightInv (fun _ => FlightInv.of_popMove) (fun s _ hs => hs.of_passive (passive_blink s) (by simp))
    (fun _ _ _ hs hc hx => hs.of_command hc (exec_effect hx)) (fun _ _ _ hs he hx => hs.of_event he (exec_effect hx)) hs h

/-- No step but RESET moves the direction in flight: SEQ holds, and the events leave `de` alone. -/
theorem de_of_txPend {s t : State} (hs : FlightInv s) (hq : s.txPend = true) (h : step s = .next t)
    (hn : s.nextMove ≠ .input 0xC000) : t.de = s.de := by
  have hpop : s.popMove.de = s.de := by simp
  obtain ⟨-, ⟨-, -, hb⟩ | ⟨-, i, hc, hx⟩ | ⟨w, i, hm, hd, he, hx⟩⟩ := step_next.1 h
  · rcases fatalBlink_next.1 hb with ⟨-, rfl⟩ | ⟨-, rfl⟩ <;> simp
  · obtain rfl := hs.of_popMove.eq_of_command (by simpa using hq) ((popMove_command s).trans hc) (exec_effect hx)
    exact hpop
  · refine ((exec_effect hx).passive he ?_).de.trans hpop
    rintro rfl
    exact hn (hm.trans (congrArg Move.input (eq_of_decode_reset hd)))

/-- Settles O54: only R_TXREQ sets `tx_pend`, and from there SEQ holds at R_TXWAIT until the answer or a RESET clears it. -/
theorem flightInvIsKept : Obligations.FlightInvIsKept :=
  ⟨flightInv_of_not_txPend rfl, fun _ _ hs h => ⟨step_keeps_flightInv hs h, fun hq hn => de_of_txPend hs hq h hn⟩⟩

end Sys2Proof.Safety

/-! ### The direction controller (40_direction_controller.md R122 to R125) -/

namespace Sys2Proof.Machine

/-- The settle is done when strictly more than SETTLE_TICKS ticks have passed (R123). -/
theorem settleDone_iff {s : State} : s.settleDone = true ↔ s.params.settleTicks.toNat < (s.elapsed s.dirT0).toNat :=
  decide_eq_true_iff

/-- Settles O19: D_WRITE is the direction write that goes on at phase 1. -/
theorem setdirWritesTheDirection : Obligations.SetdirWritesTheDirection := by
  refine fun s d hp => ⟨fun hd hde => ?_, fun h => ?_⟩
  · exact (execSetdir_ph0 hp).trans (dirPhase_fault.2 ⟨hd, hde, rfl⟩)
  · refine (execSetdir_ph0 hp).trans (dirPhase_next.2 ⟨?_, rfl⟩)
    rintro ⟨rfl, hde⟩
    simp [hde] at h

/-- Settles O20: D_SETTLE is the settle phase that goes on at the next address. -/
theorem setdirSettles : Obligations.SetdirSettles := by
  intro s d hp
  refine (execSetdir_ph1 hp).trans (settlePhase_next.2 ?_)
  split
  · exact .inl ⟨settleDone_iff.2 ‹_›, rfl⟩
  · exact .inr ⟨Bool.eq_false_iff.2 (mt settleDone_iff.1 ‹_›), rfl⟩

end Sys2Proof.Machine

/-! ### Counting ticks (00_scope.md R12, 42_bridge_sequencer.md R184) -/

namespace Sys2Proof.Machine

/-- The state `n` ticks later. -/
def State.afterTicks (s : State) (n : Nat) : State := { s with now := s.now + BitVec.ofNat 32 n }

@[simp] theorem State.afterTicks_zero (s : State) : s.afterTicks 0 = s := by simp [State.afterTicks]
@[simp] theorem State.afterTicks_dirT0 (s : State) (n : Nat) : (s.afterTicks n).dirT0 = s.dirT0 := rfl
@[simp] theorem State.afterTicks_params (s : State) (n : Nat) : (s.afterTicks n).params = s.params := rfl

theorem State.tickOnce_afterTicks (s : State) (n : Nat) : s.tickOnce.afterTicks n = s.afterTicks (n + 1) := by
  have hnow : s.now + 1 + BitVec.ofNat 32 n = s.now + BitVec.ofNat 32 (n + 1) := by
    rw [BitVec.add_assoc, BitVec.add_comm 1, BitVec.ofNat_add]
    rfl
  simp only [State.afterTicks, State.tickOnce, hnow]

/-- A timestamp taken `n` ticks ago is `n` ticks old, as long as the count has not wrapped (00_scope.md R12). -/
theorem State.elapsed_afterTicks {s : State} {t : Tick} {n : Nat} (ht : t = s.now) (hn : n < 2 ^ 32) :
    ((s.afterTicks n).elapsed t).toNat = n := by
  have hage : (s.afterTicks n).elapsed s.now = BitVec.ofNat 32 n := add_sub_cancel_left s.now _
  rw [ht, hage, BitVec.toNat_ofNat, Nat.mod_eq_of_lt hn]

end Sys2Proof.Machine

namespace Sys2Proof.Claims

open Sys2Proof.Machine

/-- A live run takes `n` ticks in a row, and they change `now` alone. -/
theorem runInstrs_ticks {s : State} (n : Nat) (hlive : s.stopped = false) :
    runInstrs (List.replicate n .tick) s = .next (s.afterTicks n) := by
  induction n generalizing s with
  | zero => simp [runInstrs]
  | succ n ih =>
    have htick : exec .tick s = .next s.tickOnce := execTick_next.2 ⟨hlive, rfl⟩
    rw [List.replicate_succ, runInstrs_cons htick, ih (s := s.tickOnce) hlive, State.tickOnce_afterTicks]

/-- Settles O49: `n` ticks after the direction write, exactly `n` have passed. -/
theorem settleLastsItsTicks : Obligations.SettleLastsItsTicks := by
  intro s n hlive hdir hn
  refine ⟨s.afterTicks n, runInstrs_ticks n hlive, rfl, ?_⟩
  rw [settleDone_iff, State.afterTicks_params, State.afterTicks_dirT0, State.elapsed_afterTicks hdir hn]

end Sys2Proof.Claims

/-! ### Arming and receiving (41_relay_channel.md R137 to R143) -/

namespace Sys2Proof.Machine

theorem execArm_ph0 {e : Ep} {s : State} (hp : s.ph = 0) :
    execArm e s = if s.flag e then raiseArmPending s else if s.armed e then .next s.advance else .next (s.armEp e).advance :=
  if_pos hp

/-- Settles O18: the pending flag is tested before the arm bit. -/
theorem armArmsOnce : Obligations.ArmArmsOnce := by
  refine fun s e hp => ⟨fun hf => ?_, fun hf ha => execArm_next.2 ⟨hp, hf, .inl ⟨ha, rfl⟩⟩,
    fun hf ha => execArm_next.2 ⟨hp, hf, .inr ⟨ha, ?_⟩⟩⟩
  · exact (execArm_ph0 hp).trans (if_pos hf)
  · cases e <;> rfl

/-- Settles O31: the arm bit alone decides between the slot and the loss of the byte. -/
theorem receiveTakesOrDrops : Obligations.ReceiveTakesOrDrops := by
  refine fun s e b hlive => ⟨by simp [eventEnabled, hlive], fun ha => execRxc_next.2 ⟨hlive, ?_⟩,
    fun ha => execRxc_next.2 ⟨hlive, ?_⟩⟩
  · rw [if_pos ha]
    cases e <;> rfl
  · exact (if_neg (Bool.eq_false_iff.1 ha)).symm

/-- Settles O33: in a live run TXDONE and its enabling both test `tx_pend` alone. -/
theorem transmitIsAnswered : Obligations.TransmitIsAnswered := fun _ _ hlive =>
  ⟨fun hq => execTxdone_next.2 ⟨hlive, (if_pos hq).symm⟩, by simp [eventEnabled, hlive]⟩

/-! ### The output ports of a step (10_state.md R61; log 16) -/

/-- A meaning shows at most one event (10_state.md R58). -/
theorem Effect.trace_eq {i : Instr} {s t : State} (h : Effect i s t) :
    t.trace = s.trace ∨ ∃ o, t.trace = s.trace ++ [o] := by
  cases h <;> simp

/-- `initreq` is high exactly in a step that shows INITREQ. -/
theorem outPorts_initreq_iff {s t : State} (h : t.trace = s.trace ∨ ∃ o, t.trace = s.trace ++ [o]) :
    (outPorts s t).initreq = true ↔ t.trace = s.trace ++ [.initReq] := by
  rcases h with h | ⟨o, h⟩
  · simp [outPorts, h]
  · simpa [outPorts, h] using eq_comm

/-- `txreq` is high exactly in a step that shows TXREQ, with its endpoint and byte. -/
theorem outPorts_txreq_iff {s t : State} (h : t.trace = s.trace ∨ ∃ o, t.trace = s.trace ++ [o]) (o : Ep) (b : Byte) :
    (outPorts s t).txreq = some (o, b) ↔ t.trace = s.trace ++ [.txReq o b] := by
  rcases h with h | ⟨x, h⟩
  · simp [outPorts, h]
  · cases x <;> simp [outPorts, h, txRequestOf]

/-- I_REQ is the one meaning that shows INITREQ (42_bridge_sequencer.md R175). -/
theorem Effect.init_of_initReq {i : Instr} {s t : State} (h : Effect i s t) (ht : t.trace = s.trace ++ [.initReq]) :
    i = .init ∧ s.ph = 0 := by
  cases h with
  | initReq hp => exact ⟨rfl, hp⟩
  | _ => simp at ht

theorem requestTx_trace_of_relay {e : Ep} {sw : Bool} {s t : State} (hp : s.ph = 4)
    (h : exec (.relay e sw) s = .next t) : t.trace = s.trace ++ [.txReq (otherEp e) (s.txSlot (otherEp e))] := by
  obtain ⟨-, rfl⟩ := relayTxReq_next.1 ((execRelay_ph4 hp).symm.trans h)
  rfl

/-- Settles O46: each strobe is the event of its request, and each request is shown by one phase of one command. -/
theorem strobesFollowTheRequests : Obligations.StrobesFollowTheRequests := by
  intro i s t h
  have he := exec_effect h
  rw [outPorts_initreq_iff he.trace_eq]
  refine ⟨⟨he.init_of_initReq, ?_⟩, fun o b => ?_⟩
  · rintro ⟨rfl, hp⟩
    obtain rfl := next_eq_next.1 ((execInit_ph0 hp).symm.trans h)
    rfl
  · rw [outPorts_txreq_iff he.trace_eq]
    constructor
    · intro ht
      obtain ⟨⟨sw, hi⟩, hp, hb⟩ := he.relay_of_txReq ht
      exact ⟨sw, hi, hp, hb⟩
    · rintro ⟨sw, rfl, hp, rfl⟩
      simpa [otherEp_otherEp] using requestTx_trace_of_relay hp h

/-! ### The phases of a relay (41_relay_channel.md R146 to R157) -/

/-- A settle phase ends when strictly more than SETTLE_TICKS ticks have passed, and holds before (40_direction_controller.md R123). -/
theorem settlePhase_eq (s t : State) :
    settlePhase s t = .next (if s.params.settleTicks.toNat < (s.now - s.dirT0).toNat then t else s) := by
  refine settlePhase_next.2 ?_
  split
  · exact .inl ⟨settleDone_iff.2 ‹_›, rfl⟩
  · exact .inr ⟨Bool.eq_false_iff.2 (mt settleDone_iff.1 ‹_›), rfl⟩

/-- Settles O21: R_CHECK is `relayCheck`. -/
theorem relayChecksTheFlag : Obligations.RelayChecksTheFlag := fun _ _ _ hp => execRelay_ph0 hp

/-- Settles O22: the flag and the transmit slot belong to different endpoints. -/
theorem relayClearsAndCopies : Obligations.RelayClearsAndCopies := by
  refine fun s e sw hp => ⟨_, execRelay_ph1 hp, by simp, by simp, ?_⟩
  cases e <;> rfl

/-- Settles O23: both phases are direction writes, and only a write of TRANSMIT can be nested. -/
theorem relaySwitchesTheDirection : Obligations.RelaySwitchesTheDirection := by
  refine fun s e sw => ⟨fun hp hde => ?_, fun hp hde => ?_, fun hp => ?_⟩
  · exact (execRelay_ph2 hp).trans (dirPhase_fault.2 ⟨rfl, hde, rfl⟩)
  · exact (execRelay_ph2 hp).trans (dirPhase_next.2 ⟨by simp [hde], rfl⟩)
  · exact (execRelay_ph6 hp).trans (dirPhase_next.2 ⟨by simp, rfl⟩)

/-- Settles O24: both phases wait by the one settle rule. -/
theorem relaySettles : Obligations.RelaySettles := fun s _ _ =>
  ⟨fun hp => (execRelay_ph3 hp).trans (settlePhase_eq s _), fun hp => (execRelay_ph7 hp).trans (settlePhase_eq s _)⟩

/-- Settles O25: the ports show the one event the phase appends. -/
theorem relayRequestsTheTransmit : Obligations.RelayRequestsTheTransmit := by
  refine fun s e sw hp => ⟨fun hd => (execRelay_ph4 hp).trans (if_pos hd), fun hd => ?_⟩
  exact ⟨_, (execRelay_ph4 hp).trans (if_neg hd), rfl, (outPorts_txreq_iff (.inr ⟨_, rfl⟩) _ _).2 rfl, rfl⟩

/-- Settles O26: R_TXWAIT tests `tx_pend`, and then `sw` picks the phase. -/
theorem relayWaitsForTheAnswer : Obligations.RelayWaitsForTheAnswer := by
  intro s e sw hp
  refine (execRelay_ph5 hp).trans ?_
  unfold relayTxWait hold
  by_cases hq : s.txPend = true
  · rw [if_pos hq, if_pos hq]
  · rw [if_neg hq, if_neg hq]
    cases sw <;> rfl

/-- Settles O27: R_REARM writes the source's arm bit and leaves the other endpoint alone. -/
theorem relayRearms : Obligations.RelayRearms := by
  refine fun s e sw hp => ⟨_, execRelay_ph8 hp, by simp, by simp, ?_⟩
  cases e <;> rfl

/-- Settles O28: the toggle's condition is a disjunction of two bits. -/
theorem relayTogglesTheIndicator : Obligations.RelayTogglesTheIndicator := by
  intro s e sw hp
  have hcond : s.relayToggles = true ↔ s.txres = true ∨ s.params.toggleOnTimeout = true := Bool.or_eq_true_iff
  refine (execRelay_ph9 hp).trans ?_
  unfold relayLed
  by_cases ht : s.relayToggles = true
  · rw [if_pos ht, if_pos (hcond.1 ht)]
    rfl
  · rw [if_neg ht, if_neg (mt hcond.2 ht)]
    rfl

end Sys2Proof.Machine

/-! ### The transitions of the channel state (10_state.md R40, 41_relay_channel.md R136) -/

namespace Sys2Proof.Safety

open Sys2Proof.Machine

/-- Outside the phases 2 to 8 of its own relay the flag and the arm bit tell an endpoint's channel state. -/
theorem chst_of_not_inRelay {s : State} {e : Ep} (h : s.inRelay e = false) :
    chst s e = if s.flag e then .flagSet else if s.armed e then .idle else .unarmed := by simp [chst, h]

theorem chst_congr {s t : State} {e : Ep} (hr : t.inRelay e = s.inRelay e) (hep : t.ep e = s.ep e) :
    chst t e = chst s e := by
  obtain ⟨hf, ha, -⟩ := views_of_ep hep
  simp [chst, hr, hf, ha]

theorem inRelay_of_ph_lt {s : State} (e : Ep) (hp : s.ph.toNat < 2) : s.inRelay e = false := by
  simp [State.inRelay, hp]

theorem inRelay_of_ph_gt {s : State} (e : Ep) (hp : 8 < s.ph.toNat) : s.inRelay e = false := by
  simp [State.inRelay, hp]

theorem inRelay_of_command {s : State} {e : Ep} {sw : Bool} (hc : s.command = some (.relay e sw)) (h2 : 2 ≤ s.ph.toNat)
    (h8 : s.ph.toNat ≤ 8) : s.inRelay e = true := by simp [State.inRelay, relaying_of_command hc, h2, h8]

/-- A byte leaves SEQ where it stands (R142). -/
theorem inRelay_of_rxc {s t : State} {x : Ep} {b : Byte} (h : exec (.rxc x b) s = .next t) (e : Ep) :
    t.inRelay e = s.inRelay e := by
  have hp : Passive s t := (exec_effect h).passive rfl (by simp)
  exact inRelay_congr hp.command hp.ph

/-- A byte moves only its own endpoint's channel state, and only out of IDLE (R140, R141). -/
theorem chst_of_rxc {s t : State} {e : Ep} {b : Byte} (hs : ChannelInv s) (h : exec (.rxc e b) s = .next t) :
    chst t e = if chst s e = .idle then .flagSet else chst s e := by
  have hidle := (channelStatesExclude s e hs).1
  have hr : t.inRelay e = s.inRelay e := inRelay_of_rxc h e
  obtain ⟨-, rfl⟩ := execRxc_next.1 h
  by_cases ha : s.armed e = true
  · have hout : s.inRelay e = false := Bool.eq_false_iff.2 fun hin => by simp [((hs e).2.2 hin).2] at ha
    rw [if_pos ha] at hr ⊢
    rw [if_pos (hidle.2 ha), chst_of_not_inRelay (hr.trans hout)]
    simp [State.flag]
  · rw [if_neg ha] at hr ⊢
    rw [if_neg (mt hidle.1 ha)]
    exact chst_congr hr (by simp)

theorem chst_of_rxc_other {s t : State} {e : Ep} {b : Byte} (h : exec (.rxc (otherEp e) b) s = .next t) :
    chst t e = chst s e := by
  refine chst_congr (inRelay_of_rxc h e) ?_
  obtain ⟨-, rfl⟩ := execRxc_next.1 h
  split
  · simpa [otherEp_otherEp] using takeReceive_ep_other s (otherEp e) b
  · simp

/-- `ARM e` leaves `e` armed with its flag clear, at phase 0 of the next command (R137). -/
theorem chst_of_arm {s t : State} {e : Ep} (h : exec (.arm e) s = .next t) : chst t e = .idle := by
  obtain ⟨-, hf, ⟨ha, rfl⟩ | ⟨ha, rfl⟩⟩ := execArm_next.1 h
  all_goals
    rw [chst_of_not_inRelay (inRelay_of_ph_lt e (by simp))]
    simp_all [State.flag, State.armed]

/-- R_CLEAR takes FLAG_SET to RELAYING (R147). -/
theorem chst_of_relayClear {s t : State} {e : Ep} {sw : Bool} (hs : ChannelInv s) (hc : s.command = some (.relay e sw))
    (hp : s.ph = 1) (h : exec (.relay e sw) s = .next t) : chst s e = .flagSet ∧ chst t e = .relaying := by
  have hf := ((channelInv_iff_of_relay hc).1 hs).2.1 hp
  obtain rfl := next_eq_next.1 ((execRelay_ph1 hp).symm.trans h)
  constructor
  · rw [chst_of_not_inRelay (inRelay_of_ph_lt e (by simp [hp])), if_pos hf]
  · refine if_pos (inRelay_of_command ((command_congr (by simp) (by simp) (by simp)).trans hc) ?_ ?_) <;> cases sw <;> simp

/-- R_REARM takes RELAYING to IDLE (R156). -/
theorem chst_of_relayRearm {s t : State} {e : Ep} {sw : Bool} (hs : ChannelInv s) (hc : s.command = some (.relay e sw))
    (hp : s.ph = 8) (h : exec (.relay e sw) s = .next t) : chst s e = .relaying ∧ chst t e = .idle := by
  have hr : s.inRelay e = true := inRelay_of_command hc (by simp [hp]) (by simp [hp])
  obtain ⟨hf, -⟩ := (hs e).2.2 hr
  obtain rfl := next_eq_next.1 ((execRelay_ph8 hp).symm.trans h)
  refine ⟨if_pos hr, ?_⟩
  rw [chst_of_not_inRelay (inRelay_of_ph_gt e (by simp))]
  simp_all [State.flag, State.armed]

theorem chst_of_reset {s t : State} (e : Ep) (h : exec .reset s = .next t) : chst t e = .unarmed := by
  obtain ⟨-, rfl⟩ := execReset_next.1 h
  rw [chst_of_not_inRelay (inRelay_of_ph_lt e (by simp))]
  simp [State.flag, State.armed, Endpoint.reset]

/-- Settles O58, one clause for each row of R136. -/
theorem channelTransitions : Obligations.ChannelTransitions := by
  intro s t e hs
  have hflag := (channelStatesExclude s e hs).2.1
  exact ⟨fun b => chst_of_rxc hs, fun b => chst_of_rxc_other, fun _ h _ => chst_of_arm h,
    fun _ hp hst => (armArmsOnce s e hp).1 (hflag.1 hst), fun sw => chst_of_relayClear hs,
    fun sw => chst_of_relayRearm hs, chst_of_reset e⟩

end Sys2Proof.Safety

/-! ### Runs under a schedule (30_encoding.md R115; log 5) -/

namespace Sys2Proof.Machine

open Sys2Proof.Claims

/-- One step and then `k` more. -/
theorem run_succ (k : Nat) (s : State) : core.run (k + 1) s = andThen (step s) (core.run k) := by
  have hcore : core.step s = step s := rfl
  simp only [Host.Core.run, hcore]
  cases step s <;> rfl

/-- `k` steps and then `n` more. -/
theorem run_add {s t : State} (n : Nat) {k : Nat} (h : core.run k s = .next t) : core.run (k + n) s = core.run n t := by
  induction k generalizing s with
  | zero =>
    obtain rfl : s = t := Host.Outcome.next.inj h
    rw [Nat.zero_add]
  | succ k ih =>
    obtain ⟨u, hs, hu⟩ := andThen_next.1 ((run_succ k s).symm.trans h)
    rw [Nat.succ_add, Nat.succ_eq_add_one, run_succ, hs]
    exact ih hu

theorem run_one {s t : State} (h : step s = .next t) : core.run 1 s = .next t := by
  rw [run_succ, h]
  rfl

/-- `s` with the moves `ms` to come. -/
def State.withMoves (s : State) (ms : List Move) : State := { s with schedule := ms }

@[simp] theorem State.withMoves_de (s : State) (ms : List Move) : (s.withMoves ms).de = s.de := rfl
@[simp] theorem State.withMoves_dirT0 (s : State) (ms : List Move) : (s.withMoves ms).dirT0 = s.dirT0 := rfl
@[simp] theorem State.withMoves_now (s : State) (ms : List Move) : (s.withMoves ms).now = s.now := rfl
@[simp] theorem State.withMoves_hbLast (s : State) (ms : List Move) : (s.withMoves ms).hbLast = s.hbLast := rfl
@[simp] theorem State.withMoves_led (s : State) (ms : List Move) : (s.withMoves ms).led = s.led := rfl
@[simp] theorem State.withMoves_upc (s : State) (ms : List Move) : (s.withMoves ms).upc = s.upc := rfl
@[simp] theorem State.withMoves_ph (s : State) (ms : List Move) : (s.withMoves ms).ph = s.ph := rfl
@[simp] theorem State.withMoves_txPend (s : State) (ms : List Move) : (s.withMoves ms).txPend = s.txPend := rfl
@[simp] theorem State.withMoves_txres (s : State) (ms : List Move) : (s.withMoves ms).txres = s.txres := rfl
@[simp] theorem State.withMoves_trace (s : State) (ms : List Move) : (s.withMoves ms).trace = s.trace := rfl
@[simp] theorem State.withMoves_rom (s : State) (ms : List Move) : (s.withMoves ms).rom = s.rom := rfl
@[simp] theorem State.withMoves_schedule (s : State) (ms : List Move) : (s.withMoves ms).schedule = ms := rfl
@[simp] theorem State.withMoves_ep (s : State) (ms : List Move) (x : Ep) : (s.withMoves ms).ep x = s.ep x := by
  cases x <;> rfl

/-- The moves `ms` take the block from `s` to `t`, whatever moves follow. -/
def Runs (ms : List Move) (s t : State) : Prop :=
  ∀ rest, core.run ms.length (s.withMoves (ms ++ rest)) = .next (t.withMoves rest)

theorem Runs.nil (s : State) : Runs [] s s := fun _ => rfl

theorem Runs.append {ms ns : List Move} {s t u : State} (h : Runs ms s t) (k : Runs ns t u) : Runs (ms ++ ns) s u := by
  intro rest
  rw [List.length_append, List.append_assoc, run_add ns.length (h (ns ++ rest))]
  exact k rest

/-- An event runs as the move that offers it. -/
theorem runs_event {i : Instr} {s t : State} (hlive : s.stopped = false) (hd : decode (encode i) = .instr i)
    (he : i.wellFormedIn .event = true) (hx : ∀ ms, exec i (s.withMoves ms) = .next (t.withMoves ms)) :
    Runs [i.offer] s t :=
  fun rest => run_one (step_next.2 ⟨hlive, .inr (.inr ⟨encode i, i, rfl, hd, he, hx rest⟩)⟩)

@[simp] theorem State.afterTicks_de (s : State) (n : Nat) : (s.afterTicks n).de = s.de := rfl
@[simp] theorem State.afterTicks_now (s : State) (n : Nat) : (s.afterTicks n).now = s.now + BitVec.ofNat 32 n := rfl
@[simp] theorem State.afterTicks_hbLast (s : State) (n : Nat) : (s.afterTicks n).hbLast = s.hbLast := rfl
@[simp] theorem State.afterTicks_led (s : State) (n : Nat) : (s.afterTicks n).led = s.led := rfl
@[simp] theorem State.afterTicks_upc (s : State) (n : Nat) : (s.afterTicks n).upc = s.upc := rfl
@[simp] theorem State.afterTicks_fatal (s : State) (n : Nat) : (s.afterTicks n).fatal = s.fatal := rfl
@[simp] theorem State.afterTicks_txPend (s : State) (n : Nat) : (s.afterTicks n).txPend = s.txPend := rfl
@[simp] theorem State.afterTicks_txres (s : State) (n : Nat) : (s.afterTicks n).txres = s.txres := rfl
@[simp] theorem State.afterTicks_trace (s : State) (n : Nat) : (s.afterTicks n).trace = s.trace := rfl
@[simp] theorem State.afterTicks_faults (s : State) (n : Nat) : (s.afterTicks n).faults = s.faults := rfl
@[simp] theorem State.afterTicks_refusedMark (s : State) (n : Nat) : (s.afterTicks n).refusedMark = s.refusedMark := rfl
@[simp] theorem State.afterTicks_rom (s : State) (n : Nat) : (s.afterTicks n).rom = s.rom := rfl
@[simp] theorem State.afterTicks_ep (s : State) (n : Nat) (x : Ep) : (s.afterTicks n).ep x = s.ep x := by cases x <;> rfl

/-- `n` ticks in a row change `now` alone. -/
theorem runs_ticks {s : State} (n : Nat) (hlive : s.stopped = false) : Runs (tickMoves n) s (s.afterTicks n) := by
  induction n generalizing s with
  | zero =>
    rw [State.afterTicks_zero]
    exact Runs.nil s
  | succ n ih =>
    have htick : Runs [Instr.offer .tick] s s.tickOnce :=
      runs_event hlive rfl rfl fun ms => execTick_next.2 ⟨hlive, rfl⟩
    rw [← State.tickOnce_afterTicks]
    exact htick.append (ih (s := s.tickOnce) hlive)

theorem runs_txdone {s : State} (r : Bool) (hlive : s.stopped = false) (hq : s.txPend = true) :
    Runs [Instr.offer (.txdone r)] s (s.answerTx r) :=
  runs_event hlive (by cases r <;> rfl) rfl fun ms => execTxdone_next.2 ⟨hlive, (if_pos hq).symm⟩

/-! ### The pieces of one relay (41_relay_channel.md R159) -/

/-- A live run with SEQ at `RELAY e, sw`. -/
structure AtRelay (e : Ep) (sw : Bool) (s : State) : Prop where
  live : s.stopped = false
  command : s.command = some (.relay e sw)

section
variable {e : Ep} {sw : Bool} {s t : State}

theorem AtRelay.congr (h : AtRelay e sw s) (hrec : t.faults = s.faults ∧ t.refusedMark = s.refusedMark := by simp)
    (hseq : t.rom = s.rom ∧ t.upc = s.upc ∧ t.fatal = s.fatal := by simp) : AtRelay e sw t where
  live := by simpa [State.stopped, hrec] using h.live
  command := (command_congr hseq.1 hseq.2.1 hseq.2.2).trans h.command

/-- A SEQ move runs the relay's phase. -/
theorem AtRelay.runs (h : AtRelay e sw s) (hx : ∀ ms, execRelay e sw (s.withMoves ms) = .next (t.withMoves ms)) :
    Runs [.seq] s t :=
  fun rest => run_one (step_next.2 ⟨h.live, .inr (.inl ⟨rfl, .relay e sw, h.command, hx rest⟩)⟩)

/-- R_CHECK and R_CLEAR of a flagged endpoint (R146, R147): the byte is in the target's transmit slot. -/
theorem AtRelay.runs_take (h : AtRelay e sw s) (hp : s.ph = 0) (hf : s.flag e = true) :
    Runs (seqMoves 2) s (((s.clearFlag e).setTxSlot (otherEp e) (s.rxSlot e)).setPh (if sw then 2 else 4)) := by
  have hcheck : Runs [.seq] s (s.setPh 1) := h.runs fun ms => by
    have hf' : (s.withMoves ms).flag e = true := by simpa [State.flag] using hf
    rw [execRelay_ph0 (s := s.withMoves ms) hp, relayCheck, if_pos hf']
    rfl
  refine hcheck.append (h.congr.runs fun ms => (execRelay_ph1 rfl).trans ?_)
  cases e <;> rfl

/-- A direction write, `n` ticks and the end of the settle: R_DIRTX to R_SETTLE_TX, and R_DIRRX to R_SETTLE_RX (R148, R149, R154,
R155). -/
theorem AtRelay.runs_switch {d : Dir} {p q : Phase} {n : Nat} (h : AtRelay e sw s)
    (hwrite : ∀ u, u.ph = s.ph → execRelay e sw u = dirPhase d p u)
    (hsettle : ∀ u, u.ph = p → execRelay e sw u = settlePhase u (u.setPh q))
    (hd : ¬ (d = .transmit ∧ s.de = .transmit)) (hn : n < 2 ^ 32) (hlong : s.params.settleTicks.toNat < n) :
    Runs ([.seq] ++ tickMoves n ++ [.seq]) s (((s.writeDir d).setPh p |>.afterTicks n).setPh q) := by
  have hto : Runs [.seq] s ((s.writeDir d).setPh p) :=
    h.runs fun ms => (hwrite (s.withMoves ms) rfl).trans (dirPhase_next.2 ⟨hd, rfl⟩)
  have hticks : Runs (tickMoves n) ((s.writeDir d).setPh p) (((s.writeDir d).setPh p).afterTicks n) :=
    runs_ticks n h.congr.live
  have hdone : (((s.writeDir d).setPh p).afterTicks n).settleDone = true := by
    have hage : (((s.writeDir d).setPh p).afterTicks n |>.elapsed s.now).toNat = n := State.elapsed_afterTicks rfl hn
    exact settleDone_iff.2 (hlong.trans_eq hage.symm)
  have hat : AtRelay e sw (((s.writeDir d).setPh p).afterTicks n) := h.congr
  exact (hto.append hticks).append (hat.runs fun ms => (hsettle _ rfl).trans (settlePhase_next.2 (.inl ⟨hdone, rfl⟩)))

/-- R_TXREQ, the answer and R_TXWAIT (R151 to R153): the answer decides `txres` and nothing else. -/
theorem AtRelay.runs_transmit (h : AtRelay e sw s) (r : Bool) (hp : s.ph = 4) (hd : ¬ (otherEp e = .B ∧ s.de = .receive)) :
    Runs [.seq, Instr.offer (.txdone r), .seq] s
      (((s.requestTx (otherEp e)).setPh 5 |>.answerTx r).setPh (if sw then 6 else 8)) := by
  have hreq : Runs [.seq] s ((s.requestTx (otherEp e)).setPh 5) := h.runs fun ms => by
    refine (execRelay_ph4 (s := s.withMoves ms) hp).trans (relayTxReq_next.2 ⟨hd, ?_⟩)
    cases e <;> rfl
  exact (hreq.append (runs_txdone r h.congr.live rfl)).append (h.congr.runs fun ms => (execRelay_ph5 rfl).trans rfl)

end

/-- The toggle that ends a relay, where there is one, and the next command (R157). -/
def State.endRelay (s : State) : State := (if s.relayToggles then s.toggleLed else s).advance

@[simp] theorem State.endRelay_led (s : State) : s.endRelay.led = (s.led ^^ s.relayToggles) := by
  unfold State.endRelay
  split <;> simp [*]

@[simp] theorem State.endRelay_trace (s : State) : s.endRelay.trace = s.trace ++ ledEvents s s.txres := by
  have hcond : (s.txres || s.params.toggleOnTimeout) = s.relayToggles := rfl
  unfold State.endRelay ledEvents
  rw [hcond]
  split <;> simp

@[simp] theorem State.endRelay_upc (s : State) : s.endRelay.upc = s.upc + 1 := by unfold State.endRelay; split <;> rfl
@[simp] theorem State.endRelay_ph (s : State) : s.endRelay.ph = 0 := rfl
@[simp] theorem State.endRelay_de (s : State) : s.endRelay.de = s.de := by unfold State.endRelay; split <;> rfl
@[simp] theorem State.endRelay_dirT0 (s : State) : s.endRelay.dirT0 = s.dirT0 := by unfold State.endRelay; split <;> rfl
@[simp] theorem State.endRelay_now (s : State) : s.endRelay.now = s.now := by unfold State.endRelay; split <;> rfl
@[simp] theorem State.endRelay_hbLast (s : State) : s.endRelay.hbLast = s.hbLast := by unfold State.endRelay; split <;> rfl
@[simp] theorem State.endRelay_txPend (s : State) : s.endRelay.txPend = s.txPend := by unfold State.endRelay; split <;> rfl
@[simp] theorem State.endRelay_txres (s : State) : s.endRelay.txres = s.txres := by unfold State.endRelay; split <;> rfl
@[simp] theorem State.endRelay_rom (s : State) : s.endRelay.rom = s.rom := by unfold State.endRelay; split <;> rfl
@[simp] theorem State.endRelay_ep (s : State) (x : Ep) : s.endRelay.ep x = s.ep x := by
  unfold State.endRelay
  split <;> simp

/-- R_REARM and R_LED (R156, R157). -/
theorem AtRelay.runs_finish {e : Ep} {sw : Bool} {s : State} (h : AtRelay e sw s) (hp : s.ph = 8) :
    Runs (seqMoves 2) s ((s.armEp e).setPh 9).endRelay := by
  have harm : Runs [.seq] s ((s.armEp e).setPh 9) := h.runs fun ms => by
    refine (execRelay_ph8 (s := s.withMoves ms) hp).trans ?_
    cases e <;> rfl
  refine harm.append (h.congr.runs fun ms => (execRelay_ph9 rfl).trans ?_)
  have hcond : (((s.armEp e).setPh 9).withMoves ms).relayToggles = ((s.armEp e).setPh 9).relayToggles := rfl
  rw [relayLed, hcond, State.endRelay]
  split <;> rfl

/-! ### The relay with a direction switch (41_relay_channel.md R159, R160) -/

/-- The block after R_SETTLE_TX: the byte is in the target's slot and the bus has been driven for `n` ticks. -/
def State.driven (s : State) (e : Ep) (n : Nat) : State :=
  ((((s.clearFlag e).setTxSlot (otherEp e) (s.rxSlot e)).setPh 2 |>.writeDir .transmit).setPh 3 |>.afterTicks n).setPh 4

/-- The block after R_SETTLE_RX: the answer is in and the bus has been released for `n` ticks. -/
def State.released (s : State) (e : Ep) (r : Bool) (n : Nat) : State :=
  ((((s.requestTx (otherEp e)).setPh 5 |>.answerTx r).setPh 6 |>.writeDir .receive).setPh 7 |>.afterTicks n).setPh 8

section
variable {e : Ep} {s : State} {n : Nat}

theorem AtRelay.runs_driven (h : AtRelay e true s) (hp : s.ph = 0) (hf : s.flag e = true) (hde : s.de = .receive)
    (hn : n < 2 ^ 32) (hlong : s.params.settleTicks.toNat < n) :
    Runs (seqMoves 2 ++ ([.seq] ++ tickMoves n ++ [.seq])) s (s.driven e n) :=
  (h.runs_take hp hf).append <| h.congr.runs_switch (fun _ hu => execRelay_ph2 hu) (fun _ hu => execRelay_ph3 hu)
    (by simp [hde]) hn (by simpa using hlong)

theorem AtRelay.runs_released (h : AtRelay e true s) (r : Bool) (hp : s.ph = 4) (hde : s.de = .transmit)
    (hn : n < 2 ^ 32) (hlong : s.params.settleTicks.toNat < n) :
    Runs ([.seq, Instr.offer (.txdone r), .seq] ++ ([.seq] ++ tickMoves n ++ [.seq])) s (s.released e r n) :=
  (h.runs_transmit r hp (by simp [hde])).append <| h.congr.runs_switch (fun _ hu => execRelay_ph6 hu)
    (fun _ hu => execRelay_ph7 hu) (by simp) hn (by simpa using hlong)

theorem AtRelay.runs_switchScript (h : AtRelay e true s) (r : Bool) (hp : s.ph = 0) (hf : s.flag e = true)
    (hde : s.de = .receive) (hn : n < 2 ^ 32) (hlong : s.params.settleTicks.toNat < n) :
    Runs (switchScript n r) s (((s.driven e n).released e r n |>.armEp e).setPh 9).endRelay := by
  have hdriven : AtRelay e true (s.driven e n) := h.congr (by simp [State.driven]) (by simp [State.driven])
  have hreleased : AtRelay e true ((s.driven e n).released e r n) :=
    hdriven.congr (by simp [State.released]) (by simp [State.released])
  have hrun := (h.runs_driven hp hf hde hn hlong).append <|
    (hdriven.runs_released r rfl rfl hn (by simpa [State.driven] using hlong)).append (hreleased.runs_finish rfl)
  simpa [switchScript, seqMoves, List.replicate] using hrun

end

/-- Settles O59: R_CHECK to R_SETTLE_TX drive the bus, R_TXREQ to R_SETTLE_RX send the byte and release it, and R_REARM and R_LED
end the relay whatever the answer was. -/
theorem relayWithSwitchCarriesTheByte : Obligations.RelayWithSwitchCarriesTheByte := by
  intro s e r n rest hlive hc hp hf hde hset hn hsched
  have hs : s = s.withMoves (switchScript n r ++ rest) := by rw [State.withMoves, ← hsched]
  have hrun := AtRelay.runs_switchScript ⟨hlive, hc⟩ r hp hf hde hn (by omega) rest
  rw [← hs] at hrun
  have hnow : s.now + BitVec.ofNat 32 (2 * n) = s.now + BitVec.ofNat 32 n + BitVec.ofNat 32 n := by
    rw [two_mul, BitVec.ofNat_add, BitVec.add_assoc]
  refine ⟨_, hrun, ?_⟩
  simp [State.driven, State.released, State.relayToggles, State.txSlot, ledEvents, hnow]

end Sys2Proof.Machine

/-! ### Refusals (60_exceptions.md R203, 42_bridge_sequencer.md R170, R171) -/

namespace Sys2Proof.Machine

open Sys2Proof.Claims Sys2Proof.Safety

/-- A breach of a calling rule faults at its listed phase (60_exceptions.md R202). -/
theorem exec_faults_of_breach {i : Instr} {s : State} (hl : listedPhase i s.ph = true) (hb : Breach i s) :
    ∃ f, exec i s = .fault f := by
  cases i with
  | arm e =>
    have hn : s.ph.toNat < 1 := of_decide_eq_true hl
    exact ⟨_, (execArm_ph0 (by bv_omega)).trans (if_pos hb)⟩
  | setdir d =>
    obtain ⟨hp, hd⟩ := hb
    exact ⟨_, (execSetdir_ph0 hp).trans (dirPhase_fault.2 ⟨hd.1, hd.2, rfl⟩)⟩
  | relay e sw =>
    rcases hb with ⟨hp, hd⟩ | ⟨hp, rfl, hd⟩
    · exact ⟨_, (execRelay_ph2 hp).trans (dirPhase_fault.2 ⟨rfl, hd, rfl⟩)⟩
    · exact ⟨_, (execRelay_ph4 hp).trans (if_pos ⟨rfl, hd⟩)⟩
  | _ => exact hb.elim

/-- At a listed phase a meaning answers a next state or faults. -/
theorem exec_not_refused {i : Instr} {s : State} (hl : listedPhase i s.ph = true) (r : Refusal) : exec i s ≠ .refused r := by
  intro h
  by_cases hb : Breach i s
  · obtain ⟨f, hf⟩ := exec_faults_of_breach hl hb
    cases hf.symm.trans h
  · obtain ⟨t, ht⟩ := exec_answers hl hb
    cases ht.symm.trans h

/-- SEQ dispatches the command it is at (42_bridge_sequencer.md R170). -/
theorem seqStep_of_command {i : Instr} {s : State} (hc : s.command = some i) : seqStep s = exec i s := by
  obtain ⟨hf, hd, hw⟩ := command_eq_some.1 hc
  simp [seqStep, hf, hd, hw]

/-- In a live run the input stream refuses only words that are no events. -/
theorem inputStep_refused {w : Word} {s : State} {r : Refusal} (hlive : s.stopped = false)
    (h : inputStep w s = .refused r) : r = .illegalWord .input w := by
  by_cases hw : isEventWord w = true
  · obtain ⟨i, hd, he⟩ := isEventWord_iff.1 hw
    obtain ⟨t, ht⟩ := exec_event_answers hlive he
    cases (inputStep_next.2 ⟨i, hd, he, ht⟩).symm.trans h
  · rw [inputStep_refuses fun i hd => Bool.eq_false_iff.2 fun he => hw (isEventWord_iff.2 ⟨i, hd, he⟩)] at h
    exact (Host.Outcome.refused.inj h).symm

/-- SEQ refuses the word it fetches, or a phase of its command. -/
theorem seqStep_refused {s : State} {r : Refusal} (h : seqStep s = .refused r) :
    r = .illegalWord (.rom s.upc) s.fetched ∨ ∃ i, s.command = some i ∧ exec i s = .refused r := by
  cases hc : s.command with
  | some i => exact .inr ⟨i, rfl, (seqStep_of_command hc).symm.trans h⟩
  | none =>
    refine .inl ?_
    cases hf : s.fatal with
    | true => cases hb : s.blinkDue <;> simp [seqStep, fatalBlink, hold, hf, hb] at h
    | false =>
      rw [seqStep_refuses hf fun i hd => ?_] at h
      · exact (Host.Outcome.refused.inj h).symm
      · refine Bool.eq_false_iff.2 fun hw => ?_
        cases hc.symm.trans (command_eq_some.2 ⟨hf, hd, hw⟩)

/-- `BAD_PHASE` is refused at SEQ's dispatch alone (60_exceptions.md R203). -/
theorem step_badPhase {s : State} {a : Addr} {p : Phase} (h : step s = .refused (.badPhase a p)) :
    ∃ i, s.command = some i ∧ exec i s.popMove = .refused (.badPhase a p) := by
  cases hlive : s.stopped with
  | true => cases (step_stopped hlive).symm.trans h
  | false =>
    cases hm : s.nextMove with
    | seq =>
      rcases seqStep_refused ((step_seq hlive hm).symm.trans h) with hr | ⟨i, hc, hx⟩
      · cases hr
      · exact ⟨i, (popMove_command s).symm.trans hc, hx⟩
    | input w =>
      have hpop : s.popMove.stopped = false := (popMove_stopped s).trans hlive
      cases inputStep_refused hpop ((step_input hlive hm).symm.trans h)

/-- Settles O55: every phase rule leads to a listed phase, and a refusal at the dispatch needs an unlisted one. -/
theorem listedPhasesAreKept : Obligations.ListedPhasesAreKept := by
  refine ⟨phaseInv_of_ph_zero rfl, fun s hs => ⟨fun t ht => ?_, fun a p h => ?_⟩⟩
  · exact step_preserves PhaseInv.of_passive (fun _ => phaseInv_of_ph_zero rfl) PhaseInv.of_command hs ht
  · obtain ⟨i, hc, hx⟩ := step_badPhase h
    exact exec_not_refused (by simpa using hs i hc) _ hx

/-- Settles O6: `step` takes the move, and SEQ dispatches what it is at. -/
theorem seqMoveRunsTheFetchedCommand : Obligations.SeqMoveRunsTheFetchedCommand := by
  intro s i hlive hm hf hd hw
  have hc : s.command = some i := command_eq_some.2 ⟨hf, hd, hw⟩
  exact (step_seq hlive hm).trans (seqStep_of_command ((popMove_command s).trans hc))

/-! ### The reference ROM's words (42_bridge_sequencer.md R190) -/

/-- The empty list of cells is the reference ROM (log 1, 2). -/
theorem romWord_nil (a : Addr) : romWord [] a = referenceWord a.toNat := by
  have hlo : readCell [] (2 * a.toNat) = (referenceWord a.toNat).extractLsb' 0 8 := by simp [readCell, unlistedByte]
  have hhi : readCell [] (2 * a.toNat + 1) = (referenceWord a.toNat).extractLsb' 8 8 := by
    simp [readCell, unlistedByte, show (2 * a.toNat + 1) / 2 = a.toNat by omega]
  rw [romWord, hlo, hhi]
  exact (BitVec.extractLsb'_append_extractLsb'_eq_extractLsb' (w := 16) rfl).trans BitVec.extractLsb'_eq_self

/-- The filler stands at every address the reference ROM does not list (30_encoding.md R109). -/
theorem referenceWord_of_unlisted {a : Nat} (h : 7 ≤ a) : referenceWord a = 0xFFFF := by
  simpa [referenceWord] using List.getD_eq_default referenceWords 0xFFFF h

/-- Settles O15: the seven listed words compute, and the rest is filler. -/
theorem referenceRomWords : Obligations.ReferenceRomWords :=
  ⟨rfl, rfl, rfl, rfl, rfl, rfl, rfl, fun a ha => (romWord_nil a).trans (referenceWord_of_unlisted ha)⟩

/-! ### The sequencer's own commands (42_bridge_sequencer.md R175 to R182) -/

/-- Settles O16: the port shows the one event the phase appends. -/
theorem initRequestsInitialisation : Obligations.InitRequestsInitialisation := fun _ hp =>
  ⟨_, execInit_ph0 hp, rfl, (outPorts_initreq_iff (.inr ⟨_, rfl⟩)).2 rfl⟩

/-- Settles O17: the answer is awaited before its result is read. -/
theorem initWaitsThenBootsOrDies : Obligations.InitWaitsThenBootsOrDies := by
  intro s hp
  refine (execInit_ph1 hp).trans ?_
  unfold initWait hold
  by_cases hq : s.initPend = true
  · rw [if_pos hq, if_pos hq]
  · rw [if_neg hq, if_neg hq]
    by_cases hok : s.initOk = true
    · rw [if_pos hok, if_pos hok]
      rfl
    · rw [if_neg hok, if_neg hok]
      rfl

/-- The heartbeat is due when HB_PERIOD ticks or more have passed (R180). -/
theorem heartbeatDue_iff {s : State} : s.heartbeatDue = true ↔ s.params.hbPeriod.toNat ≤ (s.elapsed s.hbLast).toNat :=
  decide_eq_true_iff

/-- Settles O29: `HBEAT` tests the period once and goes on in both cases. -/
theorem heartbeatToggles : Obligations.HeartbeatToggles := by
  refine fun s hp => execHbeat_next.2 ⟨hp, ?_⟩
  split
  · rw [if_pos (heartbeatDue_iff.2 ‹_›)]
    rfl
  · rw [if_neg (mt heartbeatDue_iff.1 ‹_›)]
    rfl

/-- Settles O30: `JMP` has one phase and no condition. -/
theorem jumpSetsTheAddress : Obligations.JumpSetsTheAddress := fun _ _ hp => execJmp_next.2 ⟨hp, rfl⟩

/-! ### The environment's events (42_bridge_sequencer.md R177, R184, R185) -/

/-- Settles O32: the addition wraps at the width of `now`. -/
theorem tickAdvancesTime : Obligations.TickAdvancesTime := fun s hlive =>
  ⟨by simp [eventEnabled, hlive], s.tickOnce, execTick_next.2 ⟨hlive, rfl⟩, rfl, BitVec.toNat_add s.now 1⟩

/-- Settles O34: in a live run INITDONE and its enabling both test `init_pend` alone. -/
theorem initialisationIsAnswered : Obligations.InitialisationIsAnswered := fun _ _ hlive =>
  ⟨fun hq => execInitdone_next.2 ⟨hlive, (if_pos hq).symm⟩, by simp [eventEnabled, hlive]⟩

/-- Settles O35: RESET tests only that the run has not ended, and adds its event to the reset values. -/
theorem resetRestoresEveryRegister : Obligations.ResetRestoresEveryRegister := fun s =>
  ⟨fun hlive => ⟨_, execReset_next.2 ⟨hlive, rfl⟩, atResetValues_resetRegisters s, rfl⟩, by simp [eventEnabled]⟩

/-! ### The heartbeat's period (42_bridge_sequencer.md R195) -/

/-- `HBEAT` changes the indicator exactly when it is due. -/
theorem hbeat_changes_led_iff {s t : State} (h : exec .hbeat s = .next t) : t.led ≠ s.led ↔ s.heartbeatDue = true := by
  obtain ⟨-, rfl⟩ := execHbeat_next.1 h
  split <;> simp [*]

/-- Settles O50: a toggle reloads `hb_last` with `now`, so that `n` ticks later the heartbeat is `n` ticks old. -/
theorem heartbeatsAreAPeriodApart : Obligations.HeartbeatsAreAPeriodApart := by
  intro s t n hlive hp hdue hst hn
  obtain ⟨-, rfl⟩ := execHbeat_next.1 hst
  rw [if_pos hdue]
  have hage := State.elapsed_afterTicks (s := s.blink.advance) (t := s.blink.advance.hbLast) rfl hn
  have hbeat := execHbeat_next.2 ⟨show (s.blink.advance.afterTicks n).ph = 0 from rfl, rfl⟩
  refine ⟨_, _, runInstrs_ticks n hlive, hbeat, ?_⟩
  rw [hbeat_changes_led_iff hbeat, heartbeatDue_iff, State.afterTicks_hbLast, hage]
  rfl

/-! ### The relay without a direction switch (42_bridge_sequencer.md R194, R199) -/

/-- The block after R_TXWAIT of a relay with no direction switch: the answer is in and the bus has not been touched. -/
def State.sent (s : State) (e : Ep) (r : Bool) : State :=
  (((((s.clearFlag e).setTxSlot (otherEp e) (s.rxSlot e)).setPh 4).requestTx (otherEp e)).setPh 5 |>.answerTx r).setPh 8

theorem AtRelay.runs_plainScript {e : Ep} {s : State} (h : AtRelay e false s) (r : Bool) (hp : s.ph = 0)
    (hf : s.flag e = true) (hd : ¬ (otherEp e = .B ∧ s.de = .receive)) :
    Runs (plainScript r) s ((s.sent e r |>.armEp e).setPh 9).endRelay := by
  have hsent : AtRelay e false (s.sent e r) := h.congr (by simp [State.sent]) (by simp [State.sent])
  have hsend : Runs (seqMoves 2 ++ [.seq, Instr.offer (.txdone r), .seq]) s (s.sent e r) :=
    (h.runs_take hp hf).append (h.congr.runs_transmit r rfl (by simpa using hd))
  exact hsend.append (hsent.runs_finish rfl)

/-- Settles O60: R_CHECK and R_CLEAR take the byte, R_TXREQ and R_TXWAIT send it on the bus as it stands, and R_REARM and R_LED end
the relay. -/
theorem relayWithoutSwitchCarriesTheByte : Obligations.RelayWithoutSwitchCarriesTheByte := by
  intro s e r rest hlive hc hp hf hd hsched
  have hs : s = s.withMoves (plainScript r ++ rest) := by rw [State.withMoves, ← hsched]
  have hrun := AtRelay.runs_plainScript ⟨hlive, hc⟩ r hp hf hd rest
  rw [← hs] at hrun
  refine ⟨_, hrun, ?_⟩
  simp [State.sent, State.relayToggles, State.txSlot, ledEvents]

end Sys2Proof.Machine

/-! ### Faults (60_exceptions.md R201, R202) -/

namespace Sys2Proof.Machine

open Sys2Proof.Safety

/-! #### One lemma for each operation and each meaning that can fault -/

theorem settlePhase_ne_fault {s t : State} {f : Fault} : settlePhase s t ≠ .fault f := by
  obtain ⟨u, hu⟩ := settlePhase_answers s t
  simp [hu]

theorem relayTxReq_fault {o : Ep} {s : State} {f : Fault} :
    relayTxReq o s = .fault f ↔ f = .busUndriven s.upc s.fetched ∧ s.de = .receive ∧ o = .B := by
  unfold relayTxReq raiseBusUndriven
  split <;> simp_all [fault_eq_fault, and_comm, -Host.Outcome.fault.injEq]

/-- A meaning of one phase faults where that phase's rule does. -/
theorem singlePhase_fault {s : State} {k : Result} {f : Fault} : singlePhase s k = .fault f ↔ s.ph = 0 ∧ k = .fault f := by
  unfold singlePhase
  split <;> simp_all [refuseBadPhase]

/-- I_REQ and I_WAIT never fault. -/
theorem execInit_ne_fault {s : State} {f : Fault} : execInit s ≠ .fault f := by
  unfold execInit
  split
  · simp [initReq]
  · unfold initWait hold
    split
    · simp
    · split <;> simp
  · simp [refuseBadPhase]

theorem execArm_fault {e : Ep} {s : State} {f : Fault} :
    execArm e s = .fault f ↔ f = .armPending s.upc s.fetched ∧ s.ph = 0 ∧ s.flag e = true := by
  unfold execArm raiseArmPending
  rw [singlePhase_fault]
  split
  · simp_all [fault_eq_fault, and_comm, -Host.Outcome.fault.injEq]
  · split <;> simp_all

/-- Only D_WRITE can fault. -/
theorem execSetdir_fault {d : Dir} {s : State} {f : Fault} :
    execSetdir d s = .fault f ↔ f = .nestedDir s.upc s.fetched ∧ s.de = .transmit ∧ d = .transmit ∧ s.ph = 0 := by
  unfold execSetdir
  split
  case h_1 hp => simp [hp, dirPhase_fault, and_comm, and_assoc]
  case h_2 hp => simp [hp, settlePhase_ne_fault]
  case h_3 => simp_all [refuseBadPhase]

/-- Of a relay's phases only R_DIRTX and R_TXREQ can fault: R_DIRRX writes RECEIVE, which is never nested. -/
theorem execRelay_fault {e : Ep} {sw : Bool} {s : State} {f : Fault} :
    execRelay e sw s = .fault f ↔
      (f = .nestedDir s.upc s.fetched ∧ s.de = .transmit ∧ s.ph = 2) ∨
      (f = .busUndriven s.upc s.fetched ∧ s.de = .receive ∧ e = .A ∧ s.ph = 4) := by
  have hother : otherEp e = .B ↔ e = .A := by cases e <;> simp [otherEp]
  unfold execRelay
  split
  case h_3 hp => simp [hp, relayDirTx, dirPhase_fault, and_comm]
  case h_5 hp => simp [hp, relayTxReq_fault, hother]
  case h_4 hp | h_8 hp => simp [hp, relaySettleTx, relaySettleRx, settlePhase_ne_fault]
  case h_6 hp => cases hq : s.txPend <;> simp [hp, relayTxWait, hold, hq]
  case h_7 hp => simp [hp, relayDirRx, dirPhase_fault]
  case h_11 => simp_all [refuseBadPhase]
  all_goals simp [*, relayCheck, relayClear, relayRearm, relayLed]

/-- An event faults only in a run that has ended (60_exceptions.md R217; log 9). -/
theorem exec_event_fault {i : Instr} {s : State} {f : Fault} (he : i.wellFormedIn .event = true) :
    exec i s = .fault f ↔ f = .runEnded ∧ s.stopped = true := by
  cases hs : s.stopped with
  | false =>
    obtain ⟨t, ht⟩ := exec_event_answers hs he
    simp [ht]
  | true =>
    have hx : exec i s = .fault .runEnded := by
      cases i with
      | rxc | tick | txdone | initdone | reset => exact whenLive_of_stopped hs
      | _ => simp [Instr.wellFormedIn, Instr.wordClass] at he
    simp [hx, eq_comm]

/-- Settles O12: a command faults in the phases that test a calling rule, an event in an ended run. -/
theorem faultsAreExactlyTheListedBreaches : Obligations.FaultsAreExactlyTheListedBreaches := by
  intro i s f
  cases i with
  | init => simp [exec, execInit_ne_fault, Instr.wellFormedIn, Instr.wordClass]
  | arm e => simp [exec, execArm_fault, State.fetched, Instr.wellFormedIn, Instr.wordClass]
  | setdir d => simp [exec, execSetdir_fault, State.fetched, Instr.wellFormedIn, Instr.wordClass]
  | relay e sw => simp [exec, execRelay_fault, State.fetched, Instr.wellFormedIn, Instr.wordClass]
  | hbeat => simp [exec, execHbeat, singlePhase_fault, Instr.wellFormedIn, Instr.wordClass]
  | jmp a => simp [exec, execJmp, singlePhase_fault, Instr.wellFormedIn, Instr.wordClass]
  | rxc | tick | txdone | initdone | reset =>
    rw [exec_event_fault rfl]
    simp [Instr.wellFormedIn, Instr.wordClass]

/-! #### A faulting step -/

/-- In the fatal state SEQ blinks before it fetches anything (60_exceptions.md R214). -/
theorem seqStep_of_fatal {s : State} (hf : s.fatal = true) : seqStep s = fatalBlink s := if_pos hf

theorem fatalBlink_answers (s : State) : ∃ t, fatalBlink s = .next t := by
  cases hb : s.blinkDue with
  | true => exact ⟨_, fatalBlink_next.2 (.inl ⟨hb, rfl⟩)⟩
  | false => exact ⟨_, fatalBlink_next.2 (.inr ⟨hb, rfl⟩)⟩

/-- SEQ faults only in its command: a refused word and the fatal blink are no faults. -/
theorem command_of_seqStep_fault {s : State} {f : Fault} (h : seqStep s = .fault f) :
    ∃ i, s.command = some i ∧ exec i s = .fault f := by
  cases hc : s.command with
  | some i => exact ⟨i, rfl, (seqStep_of_command hc).symm.trans h⟩
  | none =>
    cases hf : s.fatal with
    | true =>
      rw [seqStep_of_fatal hf] at h
      obtain ⟨t, ht⟩ := fatalBlink_answers s
      cases ht.symm.trans h
    | false =>
      rw [seqStep_refuses hf fun i hd => Bool.eq_false_iff.2 fun hw => ?_] at h
      · cases h
      · cases hc.symm.trans (command_eq_some.2 ⟨hf, hd, hw⟩)

/-- The input stream faults only in an event it delivers. -/
theorem inputStep_fault {w : Word} {s : State} {f : Fault} :
    inputStep w s = .fault f ↔ ∃ i, decode w = .instr i ∧ i.wellFormedIn .event = true ∧ exec i s = .fault f := by
  unfold inputStep
  split
  · split <;> simp_all [refuseInput]
  · simp_all [refuseInput]

/-- A fault of a live state is raised by SEQ's command: no event faults there (60_exceptions.md R217). -/
theorem step_fault {s : State} {f : Fault} (hlive : s.stopped = false) (h : step s = .fault f) :
    ∃ i, s.command = some i ∧ exec i s.popMove = .fault f := by
  cases hm : s.nextMove with
  | seq =>
    obtain ⟨i, hc, hx⟩ := command_of_seqStep_fault ((step_seq hlive hm).symm.trans h)
    exact ⟨i, (popMove_command s).symm.trans hc, hx⟩
  | input w =>
    obtain ⟨i, -, he, hx⟩ := inputStep_fault.1 ((step_input hlive hm).symm.trans h)
    obtain ⟨-, hs⟩ := (exec_event_fault he).1 hx
    simp [hlive] at hs

/-- A fault with a record entry leaves that entry and nothing else, and ends the run (10_state.md R59). -/
theorem afterOutcome_fault {s : State} {f : Fault} {x : FaultEntry} (hx : faultEntry f = some x) :
    afterOutcome s (.fault f) = { s with faults := s.faults ++ [x] } ∧
      step (afterOutcome s (.fault f)) = .fault .runEnded := by
  have hafter : afterOutcome s (.fault f) = { s with faults := s.faults ++ [x] } := by simp [afterOutcome, hx]
  exact ⟨hafter, step_stopped (by simp [hafter, State.stopped])⟩

/-- Settles O11: the fault is one of the three breaches, each with its entry. -/
theorem aFaultWritesOnlyTheRecord : Obligations.AFaultWritesOnlyTheRecord := by
  intro s f hlive h
  obtain ⟨i, -, hx⟩ := step_fault hlive h
  have hf := (faultsAreExactlyTheListedBreaches i s.popMove f).1 hx
  rw [State.popMove_upc, State.popMove_rom] at hf
  rw [h]
  rcases hf with ⟨rfl, -⟩ | ⟨rfl, -⟩ | ⟨rfl, -⟩ | ⟨-, hs, -⟩
  · exact ⟨1, .inl ⟨rfl, rfl⟩, afterOutcome_fault rfl⟩
  · exact ⟨2, .inr (.inl ⟨rfl, rfl⟩), afterOutcome_fault rfl⟩
  · exact ⟨3, .inr (.inr ⟨rfl, rfl⟩), afterOutcome_fault rfl⟩
  · simp [hlive] at hs

/-! ### What an event leaves alone (60_exceptions.md R215, R216) -/

/-- Every event but RESET leaves the timestamps of SEQ and the indicator alone (10_state.md R32). -/
theorem Effect.timestamps_of_event {i : Instr} {s t : State} (h : Effect i s t) (he : i.wellFormedIn .event = true)
    (hr : i ≠ .reset) : t.dirT0 = s.dirT0 ∧ t.led = s.led ∧ t.hbLast = s.hbLast ∧ t.txT0 = s.txT0 := by
  cases h with
  | stay | take | drop | tick | txdone | initdone => simp
  | reset => exact absurd rfl hr
  | _ => simp [Instr.wellFormedIn, Instr.wordClass] at he

/-- Settles O43: such an event is passive and writes no timestamp of SEQ. -/
theorem eventsLeaveTheSequencerAlone : Obligations.EventsLeaveTheSequencerAlone := by
  intro i s t he hr h
  have hpass := (exec_effect h).passive he hr
  obtain ⟨hdirT0, hled, hhbLast, htxT0⟩ := (exec_effect h).timestamps_of_event he hr
  exact ⟨hpass.upc, hpass.ph, hpass.fatal, hpass.de, hdirT0, hled, hhbLast, hpass.txSlot, htxT0⟩

/-! ### The fatal blink (60_exceptions.md R205, R214) -/

/-- The blink is due when its period or more has passed since the last toggle (R205). -/
theorem blinkDue_iff {s : State} : s.blinkDue = true ↔ (fatalBlinkPeriod s.params).toNat ≤ (s.now - s.hbLast).toNat :=
  decide_eq_true_iff

/-- Settles O36: `fatal` is tested before the fetch, and the blink alone decides what changes. -/
theorem fatalStateOnlyBlinks : Obligations.FatalStateOnlyBlinks := by
  intro s hlive hm hf
  have hdue : s.popMove.blinkDue = true ↔ (fatalBlinkPeriod s.params).toNat ≤ (s.now - s.hbLast).toNat := by
    simp [blinkDue_iff]
  rw [step_seq hlive hm, seqStep_of_fatal ((State.popMove_fatal s).trans hf)]
  refine fatalBlink_next.2 ?_
  split
  · exact .inl ⟨hdue.2 ‹_›, by simp [State.blink, State.toggleLed, State.emit]⟩
  · exact .inr ⟨Bool.eq_false_iff.2 (mt hdue.1 ‹_›), rfl⟩

end Sys2Proof.Machine

/-! ### The encoder and the decoder (30_encoding.md R90 to R107) -/

namespace Sys2Proof

open Sys2Proof.Machine

/-- Bit 11, the endpoint's bit (30_encoding.md R105). -/
def epBit (w : Word) : BitVec 1 := w.extractLsb' 11 1

/-- Bit 10, the bit of `f` or `r` (30_encoding.md R105). -/
def flagBit (w : Word) : BitVec 1 := w.extractLsb' 10 1

/-- Bits 9:8, `z` (30_encoding.md R91, R92). -/
def zField (w : Word) : BitVec 2 := w.extractLsb' 8 2

/-- A word is its five fields (30_encoding.md R91, R92). -/
theorem word_eq_iff_fields {x y : Word} :
    x = y ↔ opField x = opField y ∧ epBit x = epBit y ∧ flagBit x = flagBit y ∧ zField x = zField y ∧
      imm8Field x = imm8Field y := by
  simp only [← BitVec.toNat_inj, opField, epBit, flagBit, zField, imm8Field, BitVec.extractLsb'_toNat,
    Nat.shiftRight_eq_div_pow]
  have hx := x.isLt
  have hy := y.isLt
  omega

/-- A must-be-zero test is a test of each field. -/
theorem and_eq_zero_iff_fields {w z : Word} :
    w &&& z = 0#16 ↔ opField w &&& opField z = 0 ∧ epBit w &&& epBit z = 0 ∧ flagBit w &&& flagBit z = 0 ∧
      zField w &&& zField z = 0 ∧ imm8Field w &&& imm8Field z = 0 := by
  rw [word_eq_iff_fields]
  simp only [opField, epBit, flagBit, zField, imm8Field, BitVec.extractLsb'_and]
  rfl

section
variable (op : BitVec 4) (e f : BitVec 1) (imm : BitVec 8)

@[simp] theorem epBit_packWord : epBit (packWord op e f imm) = e := by
  ext i hi
  simp [epBit, packWord, BitVec.getLsbD_of_ge, ← BitVec.getLsbD_eq_getElem, show i = 0 by omega]

@[simp] theorem flagBit_packWord : flagBit (packWord op e f imm) = f := by
  ext i hi
  simp [flagBit, packWord, BitVec.getLsbD_of_ge, ← BitVec.getLsbD_eq_getElem, show i = 0 by omega]

@[simp] theorem zField_packWord : zField (packWord op e f imm) = 0 := by
  ext i hi
  simp [zField, packWord, BitVec.getLsbD_of_ge, show 8 + i < 11 by omega, show 8 + i < 12 by omega, show 8 + i < 10 by omega]

end

/-- A field of one bit is that bit. -/
theorem extractLsb'_one (w : Word) (n : Nat) : w.extractLsb' n 1 = BitVec.ofBool (w.getLsbD n) := by
  ext i hi
  simp [show i = 0 by omega]

@[simp] theorem Ep.bit_epField (w : Word) : (epField w).bit = epBit w := by
  rw [epBit, extractLsb'_one, epField]
  cases w.getLsbD 11 <;> rfl

@[simp] theorem ofBool_flagField (w : Word) : BitVec.ofBool (flagField w) = flagBit w := (extractLsb'_one w 10).symm

@[simp] theorem Dir.bit_dirField (w : Word) : (dirField w).bit = flagBit w := by
  rw [← ofBool_flagField, dirField, flagField]
  cases w.getLsbD 10 <;> rfl

/-- An endpoint is read back from its bit (30_encoding.md R105). -/
@[simp] theorem Ep.of_bit (e : Ep) : (if e.bit[0] = true then .B else .A) = e := by cases e <;> rfl

/-- A direction is read back from its bit (30_encoding.md R111). -/
@[simp] theorem dirField_packWord_bit (op : BitVec 4) (e : BitVec 1) (d : Dir) (imm : BitVec 8) :
    dirField (packWord op e d.bit imm) = d := by
  have hflag : dirField (packWord op e d.bit imm) = if d.bit.getLsbD 0 then .transmit else .receive := by
    rw [← flagField_packWord op e d.bit imm]
    rfl
  rw [hflag]
  cases d <;> rfl

/-! The fields of a numeral, so that `simp` reads a row's mask. -/

theorem extractLsb'_ofNat (lo len n : Nat) (h : lo + len ≤ 16 := by decide) :
    (BitVec.ofNat 16 n).extractLsb' lo len = BitVec.ofNat len (n / 2 ^ lo) := by
  ext i hi
  simp [← BitVec.getLsbD_eq_getElem, BitVec.getLsbD_ofNat, Nat.testBit_div_two_pow, hi, show lo + i < 16 by omega,
    Nat.add_comm]

@[simp] theorem opField_ofNat (n : Nat) : opField (BitVec.ofNat 16 n) = BitVec.ofNat 4 (n / 4096) := extractLsb'_ofNat 12 4 n

@[simp] theorem epBit_ofNat (n : Nat) : epBit (BitVec.ofNat 16 n) = BitVec.ofNat 1 (n / 2048) := extractLsb'_ofNat 11 1 n

@[simp] theorem flagBit_ofNat (n : Nat) : flagBit (BitVec.ofNat 16 n) = BitVec.ofNat 1 (n / 1024) := extractLsb'_ofNat 10 1 n

@[simp] theorem zField_ofNat (n : Nat) : zField (BitVec.ofNat 16 n) = BitVec.ofNat 2 (n / 256) := extractLsb'_ofNat 8 2 n

@[simp] theorem imm8Field_ofNat (n : Nat) : imm8Field (BitVec.ofNat 16 n) = BitVec.ofNat 8 n := by
  simpa [imm8Field] using extractLsb'_ofNat 0 8 n

/-- Settles O3: each operand is read back from its field, and the row's other bits are 0. -/
theorem decodeOfEncode : Obligations.DecodeOfEncode := by
  intro i
  cases i <;> simp [decode, encode, ifZero_eq_instr, and_eq_zero_iff_fields]

/-- Settles O4: the zero test and the operands of its row give every field of the word. -/
theorem encodeOfDecode : Obligations.EncodeOfDecode := by
  intro w i h
  have hbit (x : BitVec 1) : x &&& 1#1 = x := BitVec.and_allOnes
  have hpair (x : BitVec 2) : x &&& 3#2 = x := BitVec.and_allOnes
  have hbyte (x : BitVec 8) : x &&& 255#8 = x := BitVec.and_allOnes
  unfold decode at h
  split at h
  case h_12 => cases h
  all_goals
    rename_i hop
    obtain ⟨hz, rfl⟩ := ifZero_eq_instr.1 h
    rw [and_eq_zero_iff_fields] at hz
    rw [word_eq_iff_fields]
    simp_all [encode]

/-- A row answers its instruction or `mustBeZero` (30_encoding.md R107). -/
theorem ifZero_ne_reservedOp (w z : Word) (i : Instr) : ifZero w z i ≠ .illegal .reservedOp := by
  unfold ifZero
  split <;> simp

/-- The opcodes with no row (30_encoding.md R106). -/
theorem decode_reservedOp_iff {w : Word} :
    decode w = .illegal .reservedOp ↔ (opField w).toNat ∈ [0x6, 0x7, 0xD, 0xE, 0xF] := by
  unfold decode
  split
  case h_12 =>
    have hrest : ∀ op : BitVec 4, op ∉ [0x0, 0x1, 0x2, 0x3, 0x4, 0x5, 0x8, 0x9, 0xA, 0xB, 0xC] →
        op.toNat ∈ [0x6, 0x7, 0xD, 0xE, 0xF] := by decide
    exact iff_of_true rfl (hrest _ (by simp_all))
  all_goals
    rename_i hop
    simp [hop, ifZero_ne_reservedOp]

/-- Settles O5: bit 15 of a legal word tells its class, and the reserved opcodes are those with no row. -/
theorem opFieldTellsTheClass : Obligations.OpFieldTellsTheClass := by
  intro w
  have hop : (opField w).toNat = w.toNat / 4096 := by
    have hlt := w.isLt
    simp only [opField, BitVec.extractLsb'_toNat, Nat.shiftRight_eq_div_pow]
    omega
  exact ⟨fun i hd => event_iff_of_decode hd, by rw [decode_reservedOp_iff, hop]⟩

end Sys2Proof

/-! ### What a step keeps and what it shows (10_state.md R58, R59, R61; 20_memory.md R71) -/

namespace Sys2Proof.Machine

open Sys2Proof.Safety

/-- A step takes the next move and then blinks the fatal state's indicator or has the effect of one instruction; a hold is no
change. -/
theorem step_blink_or_effect {s t : State} (h : step s = .next t) : t = s.popMove.blink ∨ ∃ i, Effect i s.popMove t := by
  obtain ⟨-, ⟨-, -, hb⟩ | ⟨-, i, -, hx⟩ | ⟨w, i, -, -, -, hx⟩⟩ := step_next.1 h
  · rcases fatalBlink_next.1 hb with ⟨-, rfl⟩ | ⟨-, rfl⟩
    · exact .inl rfl
    · exact .inr ⟨.tick, .stay⟩
  · exact .inr ⟨i, exec_effect hx⟩
  · exact .inr ⟨i, exec_effect hx⟩

/-- No step writes the ROM, the parameters, the fault record or the refusal mark (00_scope.md R10, 10_state.md R59,
20_memory.md R71). -/
theorem step_keeps_rom_params_record {s t : State} (h : step s = .next t) :
    t.rom = s.rom ∧ t.params = s.params ∧ t.faults = s.faults ∧ t.refusedMark = s.refusedMark := by
  rcases step_blink_or_effect h with rfl | ⟨i, he⟩
  · simp
  · obtain ⟨hparams, -, -, hfaults, hmark⟩ := he.params_moves_record
    simp [he.rom, hparams, hfaults, hmark]

theorem stopped_iff {s : State} : s.stopped = true ↔ s.faults ≠ [] ∨ s.refusedMark = true := by simp [State.stopped]

/-- Settles O10: every agent tests `stopped` first, and both final points ask for a clean run. -/
theorem anEndedRunHasNoStep : Obligations.AnEndedRunHasNoStep := by
  refine ⟨rfl, rfl, fun s t h => ?_, fun s hrec => ?_⟩
  · obtain ⟨-, -, hfaults, hmark⟩ := step_keeps_rom_params_record h
    exact ⟨hfaults, hmark⟩
  · have hs : s.stopped = true := stopped_iff.2 hrec
    exact ⟨step_stopped hs, whenLive_of_stopped hs, by simp [endOfRun, clean, hs], by simp [quiescent, clean, hs]⟩

/-- Settles O40: the ROM and the parameters are kept whole. -/
theorem everyStepKeepsTheRom : Obligations.EveryStepKeepsTheRom := by
  intro s t hwf h
  obtain ⟨hrom, hparams, -, -⟩ := step_keeps_rom_params_record h
  rw [hrom]
  exact ⟨hwf, hparams, fun _ => rfl⟩

/-- Settles O44: a blink shows LED, and a meaning shows at most one event. -/
theorem aStepEmitsAtMostOneEvent : Obligations.AStepEmitsAtMostOneEvent := by
  intro s t h
  rcases step_blink_or_effect h with rfl | ⟨i, he⟩
  · exact .inr ⟨.led (!s.led), by simp⟩
  · simpa using he.trace_eq

section
variable {i : Instr} {s t : State}

/-- A new direction is shown (40_direction_controller.md R122). -/
theorem Effect.trace_of_de (h : Effect i s t) (hw : t.de ≠ s.de) :
    t.trace = s.trace ++ [.de t.de] ∨ t.trace = s.trace ++ [.rst] := by
  cases h with
  | setdirWrite | dirTx | dirRx => exact .inl rfl
  | reset => exact .inr rfl
  | _ => simp at hw

/-- A new indicator level is shown (10_state.md R44). -/
theorem Effect.trace_of_led (h : Effect i s t) (hw : t.led ≠ s.led) :
    t.trace = s.trace ++ [.led t.led] ∨ t.trace = s.trace ++ [.rst] := by
  cases h with
  | ledToggle | beat => exact .inl rfl
  | reset => exact .inr rfl
  | _ => simp at hw

/-- An arm bit that rises is shown (41_relay_channel.md R137, R156). -/
theorem Effect.trace_of_arm {e : Ep} (h : Effect i s t) (ht : t.armed e = true) (hs : s.armed e = false) :
    t.trace = s.trace ++ [.arm e] := by
  have hw : (t.ep e).armed ≠ (s.ep e).armed := fun he => by simp_all [State.armed]
  cases h with
  | armNew x | rearm x =>
    rcases eq_or_eq_other x e with rfl | rfl
    · simp
    · simp at hw
  | clear x | take x => rcases eq_or_eq_other x e with rfl | rfl <;> simp_all [State.armed]
  | reset => simp [State.armed, Endpoint.reset] at ht
  | _ => simp at hw

/-- An arm bit that falls is shown (41_relay_channel.md R140, 42_bridge_sequencer.md R185). -/
theorem Effect.trace_of_disarm {e : Ep} (h : Effect i s t) (ht : t.armed e = false) (hs : s.armed e = true) :
    (∃ b, t.trace = s.trace ++ [.rx e b]) ∨ t.trace = s.trace ++ [.rst] := by
  have hw : (t.ep e).armed ≠ (s.ep e).armed := fun he => by simp_all [State.armed]
  cases h with
  | take x b =>
    rcases eq_or_eq_other x e with rfl | rfl
    · exact .inl ⟨b, by simp⟩
    · simp at hw
  | clear x | armNew x | rearm x => rcases eq_or_eq_other x e with rfl | rfl <;> simp_all [State.armed]
  | reset => exact .inr rfl
  | _ => simp at hw

end

/-- Settles O45: the blink shows LED, and each writer of a level in a meaning shows its event. -/
theorem outputChangesShowInTheTrace : Obligations.OutputChangesShowInTheTrace := by
  intro s t h
  rcases step_blink_or_effect h with rfl | ⟨i, he⟩
  · simp +contextual [State.armed]
  · have hpop (e : Ep) : s.popMove.armed e = s.armed e := by simp [State.armed]
    rw [← State.popMove_trace s, ← State.popMove_de s, ← State.popMove_led s]
    exact ⟨he.trace_of_de, he.trace_of_led, fun e ht hs => he.trace_of_arm ht ((hpop e).trans hs),
      fun e ht hs => he.trace_of_disarm ht ((hpop e).trans hs)⟩

/-! ### The ROM's words (20_memory.md R71, R72; log 1, 2) -/

/-- Settles O41: each of the two cells written is read back, and no other word has a cell in common with them. -/
theorem placedWordIsReadBack : Obligations.PlacedWordIsReadBack := by
  intro m a b w hwf
  refine ⟨setRomWord_wf a w hwf, ?_⟩
  have hlo : Memory.wf (writeCell m (2 * a.toNat) (w.extractLsb' 0 8)) = true :=
    writeCell_wf (by have := a.isLt; simp only [romCells, Config.romDepth]; omega) _ hwf
  simp only [romWord, setRomWord, readCell_writeCell _ _ _ hlo, readCell_writeCell _ _ _ hwf]
  by_cases hab : b = a
  · rw [if_pos hab, hab, if_pos rfl, if_neg (by omega), if_pos rfl]
    exact (BitVec.extractLsb'_append_extractLsb'_eq_extractLsb' (w := 16) rfl).trans BitVec.extractLsb'_eq_self
  · have hne : b.toNat ≠ a.toNat := fun h => hab (BitVec.eq_of_toNat_eq h)
    rw [if_neg hab, if_neg (by omega), if_neg (by omega), if_neg (by omega), if_neg (by omega)]

/-! ### Unlisted phases (30_encoding.md R113, 42_bridge_sequencer.md R171) -/

theorem singlePhase_of_unlisted {s : State} {k : Result} (h : ¬ s.ph.toNat < 1) : singlePhase s k = refuseBadPhase s :=
  if_neg fun hp => h (by simp [hp])

/-- A command at a phase it does not have is refused. -/
theorem exec_of_unlisted {i : Instr} {s : State} (hc : i.wellFormedIn .command = true) (hl : listedPhase i s.ph = false) :
    exec i s = refuseBadPhase s := by
  have hn : ¬ s.ph.toNat < phaseCount i := of_decide_eq_false hl
  cases i with
  | init =>
    show execInit s = _
    unfold execInit
    split
    case h_3 => rfl
    all_goals simp_all [phaseCount]
  | setdir d =>
    show execSetdir d s = _
    unfold execSetdir
    split
    case h_3 => rfl
    all_goals simp_all [phaseCount]
  | relay e sw =>
    show execRelay e sw s = _
    unfold execRelay
    split
    case h_11 => rfl
    all_goals simp_all [phaseCount]
  | arm | hbeat | jmp => exact singlePhase_of_unlisted hn
  | _ => simp [Instr.wellFormedIn, Instr.wordClass] at hc

/-- An event has no phase to be refused at: it answers a next state, or faults in an ended run. -/
theorem exec_event_not_refused {i : Instr} {s : State} (he : i.wellFormedIn .event = true) (r : Refusal) :
    exec i s ≠ .refused r := by
  cases hs : s.stopped with
  | false =>
    obtain ⟨t, ht⟩ := exec_event_answers hs he
    simp [ht]
  | true => simp [(exec_event_fault he).2 ⟨rfl, hs⟩]

/-- Settles O13: a listed phase answers or faults, an unlisted one is refused, and an event is never refused. -/
theorem badPhasesAreExactlyTheUnlistedOnes : Obligations.BadPhasesAreExactlyTheUnlistedOnes := by
  intro i s r
  constructor
  · intro h
    have hc : i.wellFormedIn .command = true := by
      rw [Instr.wellFormedIn_command, Bool.not_eq_true']
      exact Bool.eq_false_iff.2 fun he => exec_event_not_refused he r h
    have hl : listedPhase i s.ph = false := Bool.eq_false_iff.2 fun hl => exec_not_refused hl r h
    exact ⟨hc, hl, (Host.Outcome.refused.inj ((exec_of_unlisted hc hl).symm.trans h)).symm⟩
  · rintro ⟨hc, hl, rfl⟩
    exact exec_of_unlisted hc hl

/-! ### Moves that are not enabled (42_bridge_sequencer.md R172, 70_reset_and_hazards.md R249; log 7, 8) -/

@[simp] theorem popMove_settleDone (s : State) : s.popMove.settleDone = s.settleDone := by
  rw [State.settleDone, State.elapsed, State.popMove_params, State.popMove_now, State.popMove_dirT0]
  rfl

@[simp] theorem popMove_blinkDue (s : State) : s.popMove.blinkDue = s.blinkDue := by
  rw [State.blinkDue, State.elapsed, State.popMove_params, State.popMove_now, State.popMove_hbLast]
  rfl

/-- Taking the move ends no hold. -/
@[simp] theorem popMove_seqHolds (s : State) : seqHolds s.popMove = seqHolds s := by
  unfold seqHolds
  rw [State.popMove_fatal, popMove_blinkDue, popMove_command, State.popMove_ph, State.popMove_initPend, popMove_settleDone,
    State.popMove_txPend]

@[simp] theorem popMove_eventEnabled (i : Instr) (s : State) : eventEnabled i s.popMove = eventEnabled i s := by
  cases i <;> simp [eventEnabled]

/-- At a hold SEQ's command answers the state it found (42_bridge_sequencer.md R172). -/
theorem exec_of_seqHolds {i : Instr} {s : State} (hc : s.command = some i) (h : seqHolds s = true) : exec i s = .next s := by
  obtain ⟨hf, -, -⟩ := command_eq_some.1 hc
  simp only [seqHolds, hf, hc] at h
  cases i with
  | init =>
    obtain ⟨hp, hq⟩ : s.ph = 1 ∧ s.initPend = true := by simpa using h
    exact execInit_next.2 (.inr (.inl ⟨hp, hq, rfl⟩))
  | setdir d =>
    obtain ⟨hp, hs⟩ : s.ph = 1 ∧ s.settleDone = false := by simpa using h
    exact execSetdir_next.2 (.inr ⟨hp, settlePhase_next.2 (.inr ⟨hs, rfl⟩)⟩)
  | relay e sw =>
    have h : ((s.ph = 3 ∨ s.ph = 7) ∧ s.settleDone = false) ∨ (s.ph = 5 ∧ s.txPend = true) := by simpa using h
    rcases h with ⟨hp | hp, hs⟩ | ⟨hp, hq⟩
    · exact (execRelay_ph3 hp).trans (settlePhase_next.2 (.inr ⟨hs, rfl⟩))
    · exact (execRelay_ph7 hp).trans (settlePhase_next.2 (.inr ⟨hs, rfl⟩))
    · exact (execRelay_ph5 hp).trans (if_pos hq)
  | _ => simp at h

theorem seqStep_of_seqHolds {s : State} (h : seqHolds s = true) : seqStep s = .next s := by
  cases hf : s.fatal with
  | true =>
    have hb : s.blinkDue = false := by simpa [seqHolds, hf] using h
    exact (seqStep_of_fatal hf).trans (fatalBlink_next.2 (.inr ⟨hb, rfl⟩))
  | false =>
    cases hc : s.command with
    | some i => exact (seqStep_of_command hc).trans (exec_of_seqHolds hc h)
    | none => simp [seqHolds, hf, hc] at h

/-- In a live run an event that is not enabled is an answer nobody asked for, and changes nothing (log 8). -/
theorem exec_of_not_eventEnabled {i : Instr} {s : State} (hlive : s.stopped = false) (he : i.wellFormedIn .event = true)
    (h : eventEnabled i s = false) : exec i s = .next s := by
  cases i with
  | txdone r =>
    have hq : s.txPend = false := by simpa [eventEnabled, hlive] using h
    exact execTxdone_next.2 ⟨hlive, by simp [hq]⟩
  | initdone r =>
    have hq : s.initPend = false := by simpa [eventEnabled, hlive] using h
    exact execInitdone_next.2 ⟨hlive, by simp [hq]⟩
  | rxc | tick | reset => simp [eventEnabled, hlive] at h
  | _ => simp [Instr.wellFormedIn, Instr.wordClass] at he

/-- Settles O38: a SEQ move that is not enabled is a hold, an event that is not enabled an unrequested answer. -/
theorem disabledMovesChangeNothing : Obligations.DisabledMovesChangeNothing := by
  intro s hlive hlegal hdis
  cases hm : s.nextMove with
  | seq =>
    have hh : seqHolds s.popMove = true := by simpa [hm, moveEnabled, hlive] using hdis
    exact (step_seq hlive hm).trans (seqStep_of_seqHolds hh)
  | input w =>
    obtain ⟨i, hd, he⟩ := isEventWord_iff.1 (by simpa [hm, Move.legal] using hlegal)
    have hdis' : eventEnabled i s.popMove = false := by simpa [hm, moveEnabled, hd] using hdis
    exact (step_input hlive hm).trans
      (inputStep_next.2 ⟨i, hd, he, exec_of_not_eventEnabled ((popMove_stopped s).trans hlive) he hdis'⟩)

/-! ### The open blink period (60_exceptions.md R205; log 4) -/

/-- Settles O37: the remainder is below `HB_PERIOD - 1`, so that adding 1 does not wrap. -/
theorem openBlinkPeriodMeetsItsBound : Obligations.OpenBlinkPeriodMeetsItsBound := by
  intro p hopen hhb
  have hrem : Config.freeFatalPeriod % (p.hbPeriod.toNat - 1) < p.hbPeriod.toNat - 1 := Nat.mod_lt _ (by omega)
  have hlt := p.hbPeriod.isLt
  have hval : (fatalBlinkPeriod p).toNat = 1 + Config.freeFatalPeriod % (p.hbPeriod.toNat - 1) := by
    simp only [fatalBlinkPeriod, hopen, BitVec.toNat_ofNat]
    exact Nat.mod_eq_of_lt (by omega)
  exact ⟨hval, by omega, by omega⟩

end Sys2Proof.Machine
